-- ==== Sys2Proof/Word.lean ====
section
/-! DEFINITION. The plain words of the TH-48's spec: a byte of a port message, a text of printable
characters, a seat number, a screen number and a profile number (spec/00_scope.md 1.4). -/

set_option autoImplicit false

namespace Sys2Proof

/-- One byte of a port transaction or of a text (R189, R194). -/
abbrev Byte := BitVec 8

/-- A text field: its characters, each as its byte code (spec/00_scope.md 1.4.4). -/
abbrev Text := List Byte

/-- A seat number, 0 to 47: side × 24 + position (spec/00_scope.md 1.4.1). -/
abbrev Seat := Fin 48

/-- The number of a wall screen, 0 to 3 (R33). -/
abbrev ScreenNo := Fin 4

/-- The number of a profile, 0 to 7 (spec/10_sessions_and_meeting_profiles.md 11.8). -/
abbrev ProfileNo := Fin 8

end Sys2Proof
end

