-- ==== Sys2Proof/Syntax.lean ====
section
/-! DEFINITION. The commands of the TH-48: one constructor of `Instr` for every row of
spec/opcode_table.json, with the row's operands. A command is an event at one of the part's
interfaces (a message on a seat ring or on the display link, a clock event, a transaction on a control
port) or a report that one block of the part makes to another. -/

set_option autoImplicit false

namespace Sys2Proof

/-- The two sides of the table, and with them the two seat rings (spec/00_scope.md 1.4.1). -/
inductive Side where
  | north | south
  deriving DecidableEq, Repr

/-- The two sections of the table (R22). -/
inductive Sect where
  | a | b
  deriving DecidableEq, Repr

/-- The four control ports (spec/11_control_ports_and_stored_settings.md 12.1). -/
inductive Port where
  | cpa | cpb | scp | mdp
  deriving DecidableEq, Repr

/-- A key event of a seat unit (spec/01_the_seat_ring.md 2.5). -/
inductive KeyEvent where
  | requestPress | requestRelease | priorityPress | priorityRelease
  deriving DecidableEq, Repr

/-- What an up-going message carries by the request it answers (R3). -/
inductive UpContent where
  /-- Nothing beyond the position and the two status indicators. -/
  | bare
  /-- The unit kind as the code the unit sends: 0 DELEGATE_UNIT, 1 CHAIR_UNIT, any other code is
  neither (R7). -/
  | unitKind (code : Nat)
  /-- The configuration acknowledgement (R8). -/
  | configAck
  /-- The READY content: first event sequence number, key events, the two acknowledged versions and
  one microphone block of 960 samples (R3, R16, R17, R19). -/
  | ready (firstSeq : Nat) (events : List KeyEvent) (ackRing ackPlate : Option Nat) (mic : List Int)
  deriving DecidableEq, Repr

/-- One up-going message on a seat ring (R3). -/
structure UpMsg where
  /-- Its check code is correct. -/
  checkOk : Bool
  /-- Its length matches its content. -/
  lengthOk : Bool
  /-- The ring position it names. -/
  position : Nat
  /-- The power state indicator: GOOD. -/
  powerGood : Bool
  /-- The configured indicator. -/
  configured : Bool
  content : UpContent
  deriving DecidableEq, Repr

/-- One transaction on a control port as it was clocked in: the bytes clocked in whole, the command byte first,
and whether select rose with a further byte partly clocked (R189). -/
structure Clocked where
  bytes : List Byte
  cut : Bool
  deriving DecidableEq, Repr

/-- One STATUS transaction: its port, and the number of bytes clocked in whole after the command byte, which are
ignored (R189). -/
structure StatusRead where
  port : Port
  clocked : Nat
  deriving DecidableEq, Repr

/-- The commands, in the order of spec/opcode_table.json. A request carries the port it arrives at
and its payload bytes, in the order they were clocked in (R189). -/
inductive Instr where
  /-- HARDWARE_RESET: power-on or the RESET line. -/
  | hardwareReset
  /-- START_UP_LOAD_COMPLETE. -/
  | startUpLoadComplete
  /-- VISIT_OPEN: the controller of a ring opens its next visit. -/
  | visitOpen (side : Side)
  /-- ANSWER_ARRIVAL: an up-going message arrives at a ring. -/
  | answerArrival (side : Side) (msg : UpMsg)
  /-- MISSED_VISIT: the open visit of a ring closes without a well-formed answer. -/
  | missedVisit (side : Side)
  /-- MISS_COUNT_LIMIT: the missed visit that brings a seat's miss count to 3. -/
  | missCountLimit (side : Side)
  /-- POWERING_TIMEOUT: the visit without GOOD that brings the bring-up count to 100. -/
  | poweringTimeout (side : Side)
  /-- AUDIO_FRAME. -/
  | audioFrame
  /-- RAMP_STEP: the audio frame whose frame count is 15. -/
  | rampStep
  /-- FADE_COMPLETE: the floor controller takes a seat's fade complete report. -/
  | fadeComplete (seat : Seat)
  /-- COUNT_EVENT: a section's one-second count event. -/
  | countEvent (sect : Sect)
  /-- EXPIRED: the count event that brings a seat's limited turn to 0. -/
  | expired (seat : Seat)
  /-- EXPIRY_CLOSE: the floor controller takes a seat's expiry report. -/
  | expiryClose (seat : Seat)
  /-- GRACE_EXPIRY: the section controller takes a section's grace expiry. -/
  | graceExpiry (sect : Sect)
  /-- IDLE_EXPIRY: the section controller takes a section's idle expiry. -/
  | idleExpiry (sect : Sect)
  /-- SECOND_TICK: a tick of the one-second clock. -/
  | secondTick
  /-- MINUTE_EVENT: the tick with which the second passes 59 and the minute count advances. -/
  | minuteEvent
  /-- SOURCES: the matrix reports the present flags of its eight inputs. -/
  | sources (present : Vector Bool 8)
  /-- POLL_MISS_LIMIT: the tick whose poll brings the poll miss count to 3. -/
  | pollMissLimit
  /-- ACK: a screen acknowledges a version. -/
  | ack (screen : Nat) (version : Nat)
  /-- ACK_TIMEOUT: a screen's acknowledgement timer runs out. -/
  | ackTimeout (screen : ScreenNo)
  /-- HELLO: a screen starts or restarts. -/
  | hello (screen : Nat)
  /-- STORE_WRITE_COMPLETE: the write in progress completes. -/
  | storeWriteComplete
  /-- STATUS (00h). -/
  | status (read : StatusRead)
  /-- FETCH (01h), with the number of bytes clocked out whole after the command byte. -/
  | fetch (port : Port) (clocked : Nat)
  /-- FRAMING: a transaction is discarded. -/
  | framing (port : Port) (clocked : Clocked)
  /-- ILLEGAL: a request whose command code is not in Table 12-3. -/
  | illegal (port : Port) (code : Byte) (payload : List Byte)
  /-- READSEAT (10h). -/
  | readSeat (port : Port) (payload : List Byte)
  /-- READSECT (11h). -/
  | readSect (port : Port) (payload : List Byte)
  /-- READQUEUE (12h). -/
  | readQueue (port : Port) (payload : List Byte)
  /-- WALKIN (20h). -/
  | walkIn (port : Port) (payload : List Byte)
  /-- CHECKIN (21h). -/
  | checkIn (port : Port) (payload : List Byte)
  /-- END (22h). -/
  | endMeeting (port : Port) (payload : List Byte)
  /-- EXTEND (23h). -/
  | extend (port : Port) (payload : List Byte)
  /-- GRANT (24h). -/
  | grant (port : Port) (payload : List Byte)
  /-- DENY (25h). -/
  | deny (port : Port) (payload : List Byte)
  /-- CLOSE (26h). -/
  | close (port : Port) (payload : List Byte)
  /-- CLOSEALL (27h). -/
  | closeAll (port : Port) (payload : List Byte)
  /-- NEXT (28h). -/
  | nextSeat (port : Port) (payload : List Byte)
  /-- PROMOTE (29h). -/
  | promote (port : Port) (payload : List Byte)
  /-- PRIORITY (2Ah). -/
  | priority (port : Port) (payload : List Byte)
  /-- FLOOR (2Bh). -/
  | floor (port : Port) (payload : List Byte)
  /-- ADDTIME (2Ch). -/
  | addTime (port : Port) (payload : List Byte)
  /-- CLOCK (2Dh). -/
  | clock (port : Port) (payload : List Byte)
  /-- SHARE (2Eh). -/
  | share (port : Port) (payload : List Byte)
  /-- UNSHARE (2Fh). -/
  | unshare (port : Port) (payload : List Byte)
  /-- SETTIME (40h). -/
  | setTime (port : Port) (payload : List Byte)
  /-- BOOK (41h). -/
  | book (port : Port) (payload : List Byte)
  /-- ROSTER (42h). -/
  | roster (port : Port) (payload : List Byte)
  /-- UNROSTER (43h). -/
  | unroster (port : Port) (payload : List Byte)
  /-- MOVE (44h). -/
  | move (port : Port) (payload : List Byte)
  /-- CANCEL (45h). -/
  | cancel (port : Port) (payload : List Byte)
  /-- FREEZE (46h). -/
  | freeze (port : Port) (payload : List Byte)
  /-- LIST (47h). -/
  | list (port : Port) (payload : List Byte)
  /-- READBOOK (48h). -/
  | readBook (port : Port) (payload : List Byte)
  /-- CLEARTABLE (49h). -/
  | clearTable (port : Port) (payload : List Byte)
  /-- TRIM (60h). -/
  | trim (port : Port) (payload : List Byte)
  /-- NEIGHBOUR (61h). -/
  | neighbour (port : Port) (payload : List Byte)
  /-- VOLUME (62h). -/
  | volume (port : Port) (payload : List Byte)
  /-- LAYOUT (63h). -/
  | layout (port : Port) (payload : List Byte)
  /-- SPLIT (64h). -/
  | split (port : Port) (payload : List Byte)
  /-- SEATMAP (65h). -/
  | seatMap (port : Port) (payload : List Byte)
  /-- PROFILE (66h). -/
  | profile (port : Port) (payload : List Byte)
  /-- STOREPROF (67h). -/
  | storeProf (port : Port) (payload : List Byte)
  /-- STOREMAP (68h). -/
  | storeMap (port : Port) (payload : List Byte)
  /-- LEVELS (69h). -/
  | levels (port : Port) (payload : List Byte)
  /-- SCREEN (6Ah). -/
  | screen (port : Port) (payload : List Byte)
  /-- RESEAT (6Bh). -/
  | reseat (port : Port) (payload : List Byte)
  /-- SCREENSECT (6Ch). -/
  | screenSect (port : Port) (payload : List Byte)
  deriving DecidableEq, Repr

end Sys2Proof
end

