-- ==== Sys2Proof/Decode.lean ====
section
/-! DEFINITION. From the bytes of a port transaction to the command it is (R189, Table 12-3), and from a word of
the opcode table. spec/opcode_table.json gives none of its 69 rows any bits (each row's "fields" is empty and no
row has a "fixed" part): no word spells a command of this part. -/

set_option autoImplicit false

namespace Sys2Proof

/-- The request that a command code and a payload make: the command of Table 12-3, or ILLEGAL's for a code that
is not in it (R191). -/
def requestOf (p : Port) (code : Byte) (payload : List Byte) : Instr :=
  match code.toNat with
  | 0x10 => .readSeat p payload
  | 0x11 => .readSect p payload
  | 0x12 => .readQueue p payload
  | 0x20 => .walkIn p payload
  | 0x21 => .checkIn p payload
  | 0x22 => .endMeeting p payload
  | 0x23 => .extend p payload
  | 0x24 => .grant p payload
  | 0x25 => .deny p payload
  | 0x26 => .close p payload
  | 0x27 => .closeAll p payload
  | 0x28 => .nextSeat p payload
  | 0x29 => .promote p payload
  | 0x2A => .priority p payload
  | 0x2B => .floor p payload
  | 0x2C => .addTime p payload
  | 0x2D => .clock p payload
  | 0x2E => .share p payload
  | 0x2F => .unshare p payload
  | 0x40 => .setTime p payload
  | 0x41 => .book p payload
  | 0x42 => .roster p payload
  | 0x43 => .unroster p payload
  | 0x44 => .move p payload
  | 0x45 => .cancel p payload
  | 0x46 => .freeze p payload
  | 0x47 => .list p payload
  | 0x48 => .readBook p payload
  | 0x49 => .clearTable p payload
  | 0x60 => .trim p payload
  | 0x61 => .neighbour p payload
  | 0x62 => .volume p payload
  | 0x63 => .layout p payload
  | 0x64 => .split p payload
  | 0x65 => .seatMap p payload
  | 0x66 => .profile p payload
  | 0x67 => .storeProf p payload
  | 0x68 => .storeMap p payload
  | 0x69 => .levels p payload
  | 0x6A => .screen p payload
  | 0x6B => .reseat p payload
  | 0x6C => .screenSect p payload
  | _ => .illegal p code payload

/-- The transaction is discarded (R189): a byte is partly clocked, or it is a request without its length byte,
with another number of payload bytes than L, or with L above 250. -/
def Clocked.discarded (t : Clocked) : Bool :=
  t.cut || match t.bytes with
    | [] => false
    | code :: rest =>
      if code.toNat ≤ 1 then false
      else match rest with
        | [] => true
        | len :: payload => payload.length ≠ len.toNat || 250 < len.toNat

/-- The command that a transaction on a port is: FRAMING's where it is discarded, STATUS for command byte 00h,
FETCH for 01h, otherwise a request. A select that falls and rises with nothing clocked is none
(assumption 11). -/
def transaction? (p : Port) (t : Clocked) : Option Instr :=
  if t.discarded then some (.framing p t)
  else match t.bytes with
    | [] => none
    | code :: rest =>
      if code.toNat = 0 then some (.status ⟨p, rest.length⟩)
      else if code.toNat = 1 then some (.fetch p rest.length)
      else some (requestOf p code rest.tail)

/-- The command that a word spells by the table's bits: no row of the table has bits, so none
(assumption 1). -/
def decodeTableWord (_nbits _w : Nat) : Option Instr := none

end Sys2Proof
end

