-- ==== Sys2Proof/Config.lean ====
section
/-! DEFINITION. What the spec leaves open as a value: constants with no body, so that nothing can be
proved of them but what holds for every value. -/

set_option autoImplicit false

namespace Sys2Proof

/-- FREE VALUE (assumption 6). READSECT lists the members of the priority holder set (R34), and one
member may be the console, which is no seat. R194 gives a seat number as one byte and states no byte
for the console: whatever byte the part sends stands here. -/
opaque Config.consoleMemberCode : Byte

end Sys2Proof
end

