-- ==== Sys2Proof/Machine/Records.lean ====
section
/-! DEFINITION. The records that State is made of: seat records, section records, the mix, the
screens, the calendar's bookings, port records and the stored items, each as the chapter that owns it
gives it. Types only. -/

set_option autoImplicit false

namespace Sys2Proof.Machine

/-! ### The seat ring (spec/01_the_seat_ring.md) -/

/-- Presence states, in the order of Table 2-2. -/
inductive Presence where
  | absent | detected | powering | identifying | configuring | ready | fault
  deriving DecidableEq, Repr

/-- Unit kinds (2.2). -/
inductive UnitKind where
  | delegateUnit | chairUnit
  deriving DecidableEq, Repr

/-- Reason of a fault record (2.2). -/
inductive FaultReason where
  | timeout | lost
  deriving DecidableEq, Repr

/-- The fault record of a seat in FAULT: the step reached, 1 to 4, and the reason (2.2). -/
structure FaultRec where
  step : Nat
  reason : FaultReason
  deriving DecidableEq, Repr

/-- Cause of a seat's loss (Table 2-4). -/
inductive LostCause where
  | missed | restart | reseat
  deriving DecidableEq, Repr

/-! ### Seat map and session part -/

/-- Class of a seat in the seat map (R197). -/
inductive SeatClass where
  | delegate | chair
  deriving DecidableEq, Repr

/-- One entry of the seat map: class, share input 0 to 7 or none, trim 0 to 65535 (Table 12-6). -/
structure MapEntry where
  cls : SeatClass
  share : Option Nat
  trim : Nat
  deriving DecidableEq, Repr

/-- Acting role of a seat in a session (R30). -/
inductive Role where
  | delegate | chair
  deriving DecidableEq, Repr

/-- The session part of a seat: acting role, occupant name and share input override (R173). -/
structure SessionPart where
  role : Role
  name : Option Text
  share : Option Nat
  deriving DecidableEq, Repr

/-! ### Microphone and turn (spec/04, spec/05) -/

/-- Microphone states, in the order of R60. -/
inductive Mic where
  | closed | pending | active | suspended | closing
  deriving DecidableEq, Repr

/-- A turn record (R86). `reported` is set while a report of the expiry to the floor controller has
been made and not yet taken (R90, R73). -/
structure Turn where
  budget : Nat
  remaining : Int
  warned : Bool
  expired : Bool
  reported : Bool
  deriving DecidableEq, Repr

/-! ### Seat indication (spec/07) -/

/-- Ring states, in the order of R124. -/
inductive RingState where
  | dark | request | next | speaking | warning | overtime | suspended
  deriving DecidableEq, Repr

/-- The LED ring record: half-periods in units of 0.5 ms (R124). -/
structure RingRec where
  state : RingState
  duty : Nat
  blink : Nat
  flash : Nat
  tag : Nat
  deriving DecidableEq, Repr

/-- The nameplate record (R126). -/
structure PlateRec where
  name : Text
  status : Text
  deriving DecidableEq, Repr

/-! ### The seat record -/

/-- One seat record. Presence part (R4), delivery and event state (R16, R17), working seat map entry,
session part, mic part (R60), turn record (R86), cumulative speaking seconds (R97), the two
indication records with their versions (R123), and the audio blocks of the ring (R19, R20). -/
structure SeatRec where
  presence : Presence
  bringUp : Nat
  miss : Nat
  kind : Option UnitKind
  fault : Option FaultRec
  ackRing : Option Nat
  ackPlate : Option Nat
  expectSeq : Nat
  map : MapEntry
  part : Option SessionPart
  mic : Mic
  ramp : Nat
  slot : Option Nat
  stamp : Option Nat
  byPriority : Bool
  /-- A fade complete report has been made for the seat and not yet taken: the number of the step frame that
  made it first (R114, R70). -/
  fadeReport : Option Nat
  turn : Option Turn
  cumul : Nat
  /-- The seat's denial tag, as its next ring record carries it (R130). -/
  denyTag : Nat
  ring : RingRec
  ringVer : Nat
  plate : PlateRec
  plateVer : Nat
  /-- The microphone samples of this ring cycle's frames; a missing sample is 0 (R19). -/
  micNow : List Int
  /-- The microphone block that arrived in this cycle, for the frames of the next (R19). -/
  micNext : List Int
  /-- The feed samples of this cycle's frames so far, newest first (R110). -/
  feedNow : List Int
  /-- The feed samples of the cycle before, in order: the next feed block (R20). -/
  feedLast : List Int
  deriving DecidableEq, Repr

/-! ### Down-going messages (Table 2-1) -/

/-- The content of a down-going message by presence state. -/
inductive DownContent where
  | poll
  | powerQuery
  | identify
  /-- The configuration record: seat number and event sequence start. -/
  | configure (seat : Seat) (seqStart : Nat)
  /-- Expected event sequence, feed block, and each unacknowledged record with its version. -/
  | ready (expectSeq : Nat) (feed : List Int) (ring : Option (RingRec × Nat))
      (plate : Option (PlateRec × Nat))
  deriving DecidableEq, Repr

/-- A down-going message: position, power command ON, content (R2). -/
structure DownMsg where
  position : Nat
  powerOn : Bool
  content : DownContent
  deriving DecidableEq, Repr

/-- One seat ring controller: the position it visits next, the visit that is open (none: it has been
answered or has closed), and the last message it sent down (R1, R2). -/
structure SeatRing where
  next : Fin 24
  visit : Option (Fin 24)
  down : Option DownMsg
  deriving DecidableEq, Repr

/-! ### Profiles, tiles and layouts (spec/10 11.8, spec/08 9.3) -/

/-- Floor modes (R43). -/
inductive FloorMode where
  | open_ | queue | chair
  deriving DecidableEq, Repr

/-- Key modes (4.2). -/
inductive KeyMode where
  | press | ptt | toggle
  deriving DecidableEq, Repr

/-- Expiry actions (Table 11-3). -/
inductive ExpiryAction where
  | close | notify
  deriving DecidableEq, Repr

/-- Priority modes (R79). -/
inductive PriorityMode where
  | mute | cancel
  deriving DecidableEq, Repr

/-- Resolution of an activity code: 15 s or 60 s (R175). -/
inductive Resolution where
  | s15 | s60
  deriving DecidableEq, Repr

/-- An activity code: a resolution and a step count 0 to 15 (R175). -/
structure Activity where
  res : Resolution
  steps : Nat
  deriving DecidableEq, Repr

/-- Content of a tile (R139). -/
inductive Content where
  | input (n : Fin 8)
  | presenter | speakers | queue | agenda | blank
  deriving DecidableEq, Repr

/-- A tile: start and stop column, start and stop row, content, crop (R139). -/
structure Tile where
  c0 : Nat
  c1 : Nat
  r0 : Nat
  r1 : Nat
  content : Content
  cropC : Nat
  cropR : Nat
  deriving DecidableEq, Repr

/-- A layout: one to four tiles (9.3). -/
abbrev Layout := List Tile

/-- A profile, in the order of Table 11-3. -/
structure Profile where
  floorMode : FloorMode
  override : Bool
  limit : Nat
  keyMode : KeyMode
  budget : Nat
  warn : Nat
  expiry : ExpiryAction
  prioMode : PriorityMode
  cap : Nat
  grace : Activity
  idle : Activity
  ending : Nat
  overrun : Nat
  d1 : Nat
  d2 : Nat
  d3 : Nat
  d4 : Nat
  volume : Nat
  bright : Nat
  blink : Nat
  follows : Bool
  layouts : Vector Layout 4
  deriving DecidableEq, Repr

/-! ### Section records (Table 3-2) -/

/-- Table mode (R22). -/
inductive Mode where
  | joined | divided
  deriving DecidableEq, Repr

/-- Section states, in the order of Table 3-2, MERGED last. -/
inductive SectState where
  | free | grace | session | ending | overrun | merged
  deriving DecidableEq, Repr

/-- Class of a queue entry (4.5). -/
inductive EntryClass where
  | promoted | normal
  deriving DecidableEq, Repr

/-- An entry of a request queue (R47). -/
structure QEntry where
  seat : Seat
  cls : EntryClass
  stamp : Nat
  deriving DecidableEq, Repr

/-- Origin of a presenter (9.2). -/
inductive Origin where
  | explicit | follow
  deriving DecidableEq, Repr

/-- A grace or idle timer: stopped, running with seconds left, or run out with its expiry raised and
not yet taken as an event (R175). -/
inductive Timer where
  | stopped
  | running (left : Nat)
  | runOut
  deriving DecidableEq, Repr

/-- One section record (Table 3-2), with the section's request counter (4.5), its loaded profile
number (R172) and its clip counters (R115). The priority holder set is `holders`, the acting chair
seats in it in ascending order, and `console` (R75). The mix slot pool is held in the seat records:
slot k is held by the seat of the section whose slot is k (R66). -/
structure SectRec where
  state : SectState
  booking : Option Nat
  settings : Profile
  chairs : List Seat
  holders : List Seat
  console : Bool
  clockHold : Bool
  queue : List QEntry
  presenter : Option (Seat × Origin)
  grace : Timer
  idle : Timer
  stampCtr : Nat
  reqCtr : Nat
  loaded : ProfileNo
  busClip : Nat
  feedClip : Nat
  deriving DecidableEq, Repr

/-! ### Screens (spec/08 9.4, 9.5) -/

/-- Kind of a caption. -/
inductive CaptionKind where
  | speakers | queue | agenda
  deriving DecidableEq, Repr

/-- What a resolved tile shows (9.4). A NO SIGNAL tile is a caption that names its source: heading NO SIGNAL
and one line (R141). -/
inductive Shown where
  | picture (source : Fin 8) (cropC cropR : Nat)
  | noSignal (source : Fin 8) (heading line : Text)
  | caption (kind : CaptionKind) (heading : Text) (lines : List Text)
  | black
  deriving DecidableEq, Repr

/-- A resolved tile: the geometry of its working tile and its resolved content. -/
structure ResolvedTile where
  c0 : Nat
  c1 : Nat
  r0 : Nat
  r1 : Nat
  shown : Shown
  deriving DecidableEq, Repr

/-- Link state of a screen (9.5). -/
inductive Link where
  | unknown | online | offline
  deriving DecidableEq, Repr

/-- One screen record: its assigned and effective section (R33), link state, dirty flag, version
sent, in-flight version (present exactly while the in-flight flag is set), acknowledgement timer in
ms left, resolved layout, and the last UPDATE the router sent to it (R144). -/
structure ScreenRec where
  assigned : Sect
  eff : Sect
  link : Link
  dirty : Bool
  version : Option Nat
  inFlight : Option Nat
  ackTimer : Option Nat
  layout : List ResolvedTile
  sent : Option (Nat × List ResolvedTile)
  deriving DecidableEq, Repr

/-! ### Bookings (Table 10-1) -/

/-- Span of a booking. -/
inductive Span where
  | a | b | joined
  deriving DecidableEq, Repr

/-- Origin of a booking. -/
inductive BookingOrigin where
  | scheduled | walkIn
  deriving DecidableEq, Repr

/-- State of a booking. -/
inductive BookingState where
  | pending | running
  deriving DecidableEq, Repr

/-- A roster entry: seat, name, share input override (R157). -/
structure RosterEntry where
  seat : Seat
  name : Text
  share : Option Nat
  deriving DecidableEq, Repr

/-- A booking record (Table 10-1). -/
structure Booking where
  id : Nat
  span : Span
  start : Option Nat
  stop : Option Nat
  profile : ProfileNo
  lead : Sect
  title : Text
  roster : List RosterEntry
  origin : BookingOrigin
  state : BookingState
  deriving DecidableEq, Repr

/-! ### Notices (spec/11 12.2) -/

/-- FLOOR notice changes (R83). -/
inductive FloorChange where
  | opened | pending | suspended | resumed | closed
  deriving DecidableEq, Repr

/-- FLOOR notice reasons, Table 5-3 read row by row. -/
inductive FloorReason where
  | request | advance | grant | next | override | chairKey | priority | slot | priorityEnd
  | key | close | closeAll | overridden | expired | cancelled | lost | overrun | ended
  deriving DecidableEq, Repr

/-- QUEUE notice changes (R58). -/
inductive QueueChange where
  | added | removed | promoted | cleared | none
  deriving DecidableEq, Repr

/-- QUEUE notice reasons, Table 4-5 read row by row. -/
inductive QueueReason where
  | request | granted | withdrawn | denied | lost | cap | promote | ended | overrun | refused
  deriving DecidableEq, Repr

/-- Causes of a refusal (R45). -/
inductive RefusalCause where
  | overrun | cap | full | priority | limit | floor
  deriving DecidableEq, Repr

/-- TURN notice events (R101). -/
inductive TurnEvent where
  | warning | expired | extended | cap
  deriving DecidableEq, Repr

/-- SESSION notice reasons, Table 11-4 read row by row. -/
inductive SessionReason where
  | start | walkIn | checkIn | endChanged | timeSet | warning | overrun
  | noShow | end_ | time | idle | overrunDone | cleared | external | mode
  deriving DecidableEq, Repr

/-- Source of a check-in (R176). -/
inductive CheckInSource where
  | key | console | scp
  deriving DecidableEq, Repr

/-- Session end reasons (Table 11-2). -/
inductive EndReason where
  | noShow | end_ | time | idle | overrunDone | cleared | external
  deriving DecidableEq, Repr

/-- BOOKING notice changes (R170). -/
inductive BookingChange where
  | added | moved | removed | walkIn | endChanged | cleared
  deriving DecidableEq, Repr

/-- BOOKING notice reasons (R170). -/
inductive BookingReason where
  | cancelled | expired | ended | move | extend | bounded
  deriving DecidableEq, Repr

/-- Clip counters (R116). -/
inductive ClipCounter where
  | bus | feed
  deriving DecidableEq, Repr

/-- Direction of a clip (R116). -/
inductive ClipDir where
  | positive | negative
  deriving DecidableEq, Repr

/-- The detail of a notice, its fields in the order of its owning rule (R13, R58, R83, R101, R116,
R148, R170, R188). -/
inductive NoticeDetail where
  | seatReady (kind : Option UnitKind)
  | seatLost (cause : LostCause)
  | seatFault (step : Nat) (reason : FaultReason)
  | seatAbsent
  | seatMismatch (kind : UnitKind)
  | floor (change : FloorChange) (reason : FloorReason) (before after : Mic) (slot stamp : Option Nat)
      (role : Option Role) (count : Nat)
  | queue (change : QueueChange) (reason : QueueReason) (cause : Option RefusalCause)
      (cls : Option EntryClass) (stamp place : Option Nat) (length : Nat)
  | turn (event : TurnEvent) (budget : Option Nat) (remaining : Option Int) (warned expired : Bool)
      (added : Option Nat) (cumul : Nat) (held : Bool)
  | session (before after : SectState) (reason : SessionReason) (source : Option CheckInSource)
      (booking : Option Nat) (span : Option Span) (stop : Option Nat) (loaded : ProfileNo)
      (mode : Mode) (lead : Sect)
  | booking (change : BookingChange) (id : Option Nat) (span : Option Span) (start stop : Option Nat)
      (reason : Option BookingReason) (ended : Option EndReason) (oldStop : Option Nat)
  | screen (number : ScreenNo) (link : Link) (version : Option Nat)
  | clip (counter : ClipCounter) (dir : ClipDir)
  deriving DecidableEq, Repr

/-- A notice: the header's section, seat and table time, and the detail (Table 12-5). -/
structure Notice where
  sect : Option Sect
  seat : Option Seat
  minute : Option Nat
  second : Nat
  detail : NoticeDetail
  deriving DecidableEq, Repr

/-! ### Port records (spec/11 12.1) -/

/-- Reply codes, in the order of Table 12-2. -/
inductive ReplyCode where
  | ok | starting | busy | illegal | notPermitted | wrongState | notLead | range | conflict | frozen
  | full | notFound | tooLate | limit | capReached | noTime | length
  deriving DecidableEq, Repr

/-- A reply: command code echoed, reply code and payload (Table 12-5). -/
structure Reply where
  command : Byte
  code : ReplyCode
  payload : List Byte
  deriving DecidableEq, Repr

/-- One port record: REQ_BUSY and the four sticky flags, the reply slot, the notice queue, oldest
first, and the bytes the last transaction shifted out on data out. STARTING is one flag for the part;
REPLY_READY and NOTICE_PENDING follow the slot and the queue (R190). -/
structure PortRec where
  busy : Bool
  noticeLost : Bool
  framing : Bool
  overrun : Bool
  replyLost : Bool
  reply : Option Reply
  notices : List Notice
  out : List Byte
  deriving DecidableEq, Repr

/-! ### The settings store (Table 12-6) -/

/-- The table settings item. -/
structure TableSettings where
  defMode : Mode
  k : Nat
  assign : Vector Sect 4
  freezeF : Nat
  guardG : Nat
  deriving DecidableEq, Repr

/-- The ten stored items; none where an item holds no complete content (R196). -/
structure Stored where
  map : Option (Vector MapEntry 48)
  profiles : Vector (Option Profile) 8
  table : Option TableSettings
  deriving DecidableEq, Repr

/-- The write in progress: its item and the image it writes (R196). -/
inductive WriteJob where
  | map (image : Vector MapEntry 48)
  | profile (number : ProfileNo) (image : Profile)
  | table (image : TableSettings)
  deriving DecidableEq, Repr

end Sys2Proof.Machine
end

