-- ==== Sys2Proof/Machine/Texts.lean ====
section
/-! DEFINITION. Texts: constant texts, numbers, times and seat labels as characters (spec/00_scope.md
1.4, R126 to R128, R141, R142). -/

set_option autoImplicit false

namespace Sys2Proof.Machine

/-- The characters of a constant text, each as its byte code. -/
def txt (s : String) : Text := s.toList.map fun c => BitVec.ofNat 8 c.toNat

/-- One decimal digit. -/
def digit (n : Nat) : Byte := BitVec.ofNat 8 (48 + n % 10)

/-- The decimal digits of `n`, at most `fuel` of them. -/
def decDigits : Nat → Nat → Text
  | 0, _ => []
  | fuel + 1, n => if n < 10 then [digit n] else decDigits fuel (n / 10) ++ [digit n]

/-- A number in decimal, without leading zeros. -/
def dec (n : Nat) : Text := decDigits 12 n

/-- A number in two decimal digits. -/
def dec2 (n : Nat) : Text := [digit (n / 10), digit n]

/-- hh:mm of a minute count, modulo 1440 (1.4.2). -/
def hhmm (m : Nat) : Text := dec2 (m % 1440 / 60) ++ txt ":" ++ dec2 (m % 60)

/-- hh:mm-hh:mm of an interval (R128, R142). -/
def hhmmSpan (start stop : Nat) : Text := hhmm start ++ txt "-" ++ hhmm stop

/-- mm:ss of a count of seconds, 00:00 to 60:00 (R127). -/
def mmss (n : Nat) : Text := dec2 (n / 60) ++ txt ":" ++ dec2 (n % 60)

/-- The label of a seat: side letter and position (1.4.1). -/
def seatLabel (i : Seat) : Text :=
  if i.val < 24 then txt "N" ++ dec i.val else txt "S" ++ dec (i.val - 24)

/-- A character that may stand in a text: 20h to 7Eh. -/
def printable (c : Byte) : Bool := 0x20 ≤ c.toNat && c.toNat ≤ 0x7E

/-- A text taken from a payload: cut to `n` characters, each character outside 20h to 7Eh made "?"
(R158, R161). -/
def takeText (n : Nat) (t : Text) : Text := (t.take n).map fun c => if printable c then c else 0x3F

end Sys2Proof.Machine
end

