-- ==== Sys2Proof/Machine/Factory.lean ====
section
/-! DEFINITION. The factory values of the stored items (Tables 11-3 and 12-6) and the reset value of
each record (Tables 2-6, 3-3, 5-4, 7-4, 8-6, 9-2, 12-7). -/

set_option autoImplicit false

namespace Sys2Proof.Machine

/-- The factory tile: the whole grid, content AGENDA. -/
def factoryTile : Tile :=
  { c0 := 0, c1 := 15, r0 := 0, r1 := 8, content := .agenda, cropC := 0, cropR := 0 }

/-- The factory values of every profile (Table 11-3). -/
def factoryProfile : Profile :=
  { floorMode := .queue, override := false, limit := 4, keyMode := .press, budget := 0, warn := 30,
    expiry := .notify, prioMode := .mute, cap := 0, grace := ⟨.s60, 10⟩, idle := ⟨.s60, 15⟩,
    ending := 5, overrun := 0, d1 := 2048, d2 := 8192, d3 := 16384, d4 := 16384, volume := 16384,
    bright := 191, blink := 9, follows := true, layouts := Vector.replicate 4 [factoryTile] }

/-- The factory seat map entry of a seat: class CHAIR at N0, S0, N12 and S23 (Table 12-6). -/
def factoryEntry (i : Seat) : MapEntry :=
  { cls := if i = 0 ∨ i = 24 ∨ i = 12 ∨ i = 47 then .chair else .delegate, share := none,
    trim := 16384 }

/-- The factory seat map. -/
def factoryMap : Vector MapEntry 48 := Vector.ofFn factoryEntry

/-- The factory screen assignment: 0 and 1 to A, 2 and 3 to B (R33). -/
def factoryAssign : Vector Sect 4 := #v[.a, .a, .b, .b]

/-- The factory table settings (Table 12-6). -/
def factoryTable : TableSettings :=
  { defMode := .joined, k := 12, assign := factoryAssign, freezeF := 30, guardG := 15 }

/-- A settings store that holds the factory value of every item. -/
def factoryStored : Stored :=
  { map := some factoryMap, profiles := Vector.replicate 8 (some factoryProfile),
    table := some factoryTable }

/-- Half-period of a section's blink code, in units of 0.5 ms: (k + 1) × 50 ms (R124). -/
def halfPeriod (blink : Nat) : Nat := (blink + 1) * 100

/-- The LED ring record after reset (R132). -/
def ringAfterReset (p0 : Profile) : RingRec :=
  { state := .dark, duty := p0.bright, blink := 0, flash := halfPeriod p0.blink / 4, tag := 0 }

/-- A seat record after reset (R21, R60, R85, R102, R122, R132). -/
def seatAfterReset (entry : MapEntry) (p0 : Profile) : SeatRec :=
  { presence := .absent, bringUp := 0, miss := 0, kind := none, fault := none, ackRing := none,
    ackPlate := none, expectSeq := 0, map := entry, part := none, mic := .closed, ramp := 0,
    slot := none, stamp := none, byPriority := false, fadeReport := none, turn := none, cumul := 0,
    denyTag := 0, ring := ringAfterReset p0, ringVer := 1, plate := ⟨[], []⟩, plateVer := 1, micNow := [],
    micNext := [], feedNow := [], feedLast := [] }

/-- A section record with the values of Table 3-3, clip counters and request counter at their reset
values (R59, R115). -/
def sectAfterReset (st : SectState) (p0 : Profile) : SectRec :=
  { state := st, booking := none, settings := p0, chairs := [], holders := [], console := false,
    clockHold := false, queue := [], presenter := none, grace := .stopped, idle := .stopped,
    stampCtr := 1, reqCtr := 1, loaded := 0, busClip := 0, feedClip := 0 }

/-- A screen record after reset, with its resolved layout (R151). -/
def screenAfterReset (assigned eff : Sect) (layout : List ResolvedTile) : ScreenRec :=
  { assigned := assigned, eff := eff, link := .unknown, dirty := true, version := none,
    inFlight := none, ackTimer := none, layout := layout, sent := none }

/-- A port record after reset (R195). -/
def portAfterReset : PortRec :=
  { busy := false, noticeLost := false, framing := false, overrun := false, replyLost := false,
    reply := none, notices := [], out := [] }

/-- A ring controller after reset: no visit open, position 0 next, nothing sent (R1, R21). -/
def controllerAfterReset : SeatRing := { next := 0, visit := none, down := none }

/-- What a screen of the factory profile shows with an empty calendar (R151). -/
def factoryIdleLayout : List ResolvedTile :=
  [{ c0 := 0, c1 := 15, r0 := 0, r1 := 8, shown := .caption .agenda (txt "AVAILABLE") [] }]

end Sys2Proof.Machine
end

