-- ==== Sys2Proof/Machine/State.lean ====
section
/-! DEFINITION. The state of the TH-48 as the spec gives it, plain data, and the state after reset. -/

set_option autoImplicit false

namespace Sys2Proof.Machine

/-- Why a step would stop with a fault. The spec gives no command of the part a stop: each acts, is
answered with a refusal code, or is ignored. So there is no constructor, and no meaning answers with a
fault. -/
inductive Fault where
  deriving DecidableEq, Repr

/-- Why a command would have no meaning. -/
inductive Refusal where
  /-- Raised by an arm of `exec` whose command has no meaning yet (safe: the model stops). No arm
  does. -/
  | notModelled (mnemonic : String)
  deriving DecidableEq, Repr

/-- The whole state of the part.
`pending` is the model's own: the commands that wait to be taken, first in, first out. -/
structure State where
  pending : List Instr
  /-- The start-up load is in progress: STARTING on all four ports (R195). -/
  starting : Bool
  /-- The seat table. -/
  seats : Vector SeatRec 48
  /-- The two seat ring controllers. -/
  north : SeatRing
  south : SeatRing
  /-- Table mode, split position K, working default table mode (R22, R28). -/
  mode : Mode
  k : Nat
  defMode : Mode
  /-- The lead port: CPA for `a`, CPB for `b` (R29). -/
  lead : Sect
  /-- The two section records. -/
  secA : SectRec
  secB : SectRec
  /-- Table time: minute count, absent while unset, and second (R152). -/
  minute : Option Nat
  second : Nat
  /-- The booking list in booking order, the last assigned id, working F and G (R155, R164). -/
  bookings : List Booking
  lastId : Nat
  freezeF : Nat
  guardG : Nat
  /-- Place of the next audio frame in its ring cycle, 0 to 959 (R103). The frame count of R112 is
  this modulo 16. -/
  place : Nat
  /-- The model's own: the number of step frames since the reset, by which the fade complete reports keep the
  order they were made in (R114). -/
  steps : Nat
  /-- The samples on the two room outputs (R111). -/
  out1 : Int
  out2 : Int
  /-- The present flags of the eight sources, the poll miss count, and whether the last poll sent to
  the matrix is still unanswered (R133). -/
  present : Vector Bool 8
  pollMiss : Nat
  polled : Bool
  /-- The four screen records. -/
  screens : Vector ScreenRec 4
  /-- Working profiles 0 to 7 (11.8). -/
  profiles : Vector Profile 8
  /-- The four port records. -/
  cpa : PortRec
  cpb : PortRec
  scp : PortRec
  mdp : PortRec
  /-- The settings store: stored items, the write in progress, and the pending mark of the table
  settings item (R196). -/
  stored : Stored
  write : Option WriteJob
  tablePending : Bool
  deriving DecidableEq, Repr

/-- The state right after a hardware reset, before the start-up load completes, with the factory
values in the settings store (assumption 3). -/
def State.reset : State :=
  { pending := [], starting := true,
    seats := Vector.ofFn fun i => seatAfterReset (factoryEntry i) factoryProfile,
    north := controllerAfterReset, south := controllerAfterReset, mode := .joined, k := 12,
    defMode := .joined, lead := .a, secA := sectAfterReset .free factoryProfile,
    secB := sectAfterReset .merged factoryProfile, minute := none, second := 0, bookings := [],
    lastId := 0, freezeF := 30, guardG := 15, place := 0, steps := 0, out1 := 0, out2 := 0,
    present := Vector.replicate 8 false, pollMiss := 0, polled := false,
    screens := Vector.ofFn fun n => screenAfterReset factoryAssign[n] .a factoryIdleLayout,
    profiles := Vector.replicate 8 factoryProfile, cpa := portAfterReset, cpb := portAfterReset,
    scp := portAfterReset, mdp := portAfterReset, stored := factoryStored, write := none,
    tablePending := false }

end Sys2Proof.Machine
end

