-- ==== Sys2Proof/Machine/Ops.lean ====
section
/-! DEFINITION. The named operations over the state: seat, section, ring, screen and port records,
membership, the derived views of the shared state, timers, and joining a notice queue. Every other
file reads and writes the state through these. -/

set_option autoImplicit false

namespace Sys2Proof.Machine

/-! ### Records -/

/-- The seat numbers, ascending. -/
def seatList : List Seat := List.finRange 48

/-- The record of a seat. -/
def State.seat (s : State) (i : Seat) : SeatRec := s.seats[i]

/-- Replace the record of a seat. -/
def State.setSeat (s : State) (i : Seat) (r : SeatRec) : State :=
  { s with seats := s.seats.set i r }

/-- Change the record of a seat. -/
def State.modSeat (s : State) (i : Seat) (f : SeatRec → SeatRec) : State := s.setSeat i (f (s.seat i))

/-- Replace every seat record at once. -/
def State.mapSeats (s : State) (f : Seat → SeatRec → SeatRec) : State :=
  { s with seats := Vector.ofFn fun i => f i (s.seat i) }

/-- The record of a section. -/
def State.sect (s : State) : Sect → SectRec
  | .a => s.secA
  | .b => s.secB

/-- Replace the record of a section. -/
def State.setSect (s : State) (x : Sect) (r : SectRec) : State :=
  match x with
  | .a => { s with secA := r }
  | .b => { s with secB := r }

/-- Change the record of a section. -/
def State.modSect (s : State) (x : Sect) (f : SectRec → SectRec) : State := s.setSect x (f (s.sect x))

/-- The controller of a ring. -/
def State.ring (s : State) : Side → SeatRing
  | .north => s.north
  | .south => s.south

/-- Replace the controller of a ring. -/
def State.setRing (s : State) (d : Side) (r : SeatRing) : State :=
  match d with
  | .north => { s with north := r }
  | .south => { s with south := r }

/-- The record of a screen. -/
def State.screen (s : State) (n : ScreenNo) : ScreenRec := s.screens[n]

/-- Change the record of a screen. -/
def State.modScreen (s : State) (n : ScreenNo) (f : ScreenRec → ScreenRec) : State :=
  { s with screens := s.screens.set n (f (s.screen n)) }

/-- The record of a port. -/
def State.port (s : State) : Port → PortRec
  | .cpa => s.cpa
  | .cpb => s.cpb
  | .scp => s.scp
  | .mdp => s.mdp

/-- Replace the record of a port. -/
def State.setPort (s : State) (p : Port) (r : PortRec) : State :=
  match p with
  | .cpa => { s with cpa := r }
  | .cpb => { s with cpb := r }
  | .scp => { s with scp := r }
  | .mdp => { s with mdp := r }

/-- Change the record of a port. -/
def State.modPort (s : State) (p : Port) (f : PortRec → PortRec) : State := s.setPort p (f (s.port p))

/-- Fold an operation over a list of seats, first to last. -/
def overSeats (f : Seat → State → State) (l : List Seat) (s : State) : State :=
  l.foldl (fun s i => f i s) s

/-! ### Sides, positions, sections (spec/00 1.4.1, R22) -/

/-- The position of a seat, 0 to 23. -/
def seatPos (i : Seat) : Nat := i.val % 24

/-- The side of a seat. -/
def seatSide (i : Seat) : Side := if i.val < 24 then .north else .south

/-- The seat at a position of a side. -/
def seatAt (d : Side) (p : Fin 24) : Seat :=
  match d with
  | .north => ⟨p.val, by omega⟩
  | .south => ⟨p.val + 24, by omega⟩

/-- The half of a seat by the split position, in either table mode (R128). -/
def State.halfOf (s : State) (i : Seat) : Sect := if seatPos i < s.k then .a else .b

/-- The section of a seat (R22). -/
def State.sectionOf (s : State) (i : Seat) : Sect :=
  match s.mode with
  | .joined => .a
  | .divided => s.halfOf i

/-- The seats of a section, ascending. -/
def State.seatsOf (s : State) (x : Sect) : List Seat := seatList.filter fun i => s.sectionOf i = x

/-- A section state in which a session runs (R172). -/
def SectState.running : SectState → Bool
  | .grace | .session | .ending | .overrun => true
  | .free | .merged => false

/-- A section state in which the floor is open to commands: SESSION, ENDING, OVERRUN (R51). -/
def SectState.floorOpen : SectState → Bool
  | .session | .ending | .overrun => true
  | .free | .grace | .merged => false

/-- The effective section of a screen: A in JOINED mode, its assigned section in DIVIDED mode (R33). -/
def effSection (m : Mode) (assigned : Sect) : Sect :=
  match m with
  | .joined => .a
  | .divided => assigned

/-! ### Floor views (R36, R47, R60, R65, R66, R75) -/

/-- The mic is on the floor: PENDING, ACTIVE or SUSPENDED (Figure 5-1). -/
def Mic.onFloor : Mic → Bool
  | .pending | .active | .suspended => true
  | .closed | .closing => false

/-- The mic holds a slot: ACTIVE, SUSPENDED or CLOSING (Table 5-1). -/
def Mic.holdsSlot : Mic → Bool
  | .active | .suspended | .closing => true
  | .closed | .pending => false

/-- The seat's acting role is DELEGATE. -/
def SeatRec.isDelegate (r : SeatRec) : Bool :=
  match r.part with
  | some p => p.role = .delegate
  | none => false

/-- The seat's acting role is CHAIR. -/
def SeatRec.isChair (r : SeatRec) : Bool :=
  match r.part with
  | some p => p.role = .chair
  | none => false

/-- The seats of a section whose record satisfies a test, ascending. -/
def State.seatsWhere (s : State) (x : Sect) (f : SeatRec → Bool) : List Seat :=
  (s.seatsOf x).filter fun i => f (s.seat i)

/-- The delegate count of a section (4.1, R65). -/
def State.delegateCount (s : State) (x : Sect) : Nat :=
  (s.seatsWhere x fun r => r.isDelegate && r.mic.onFloor).length

/-- The acting delegates of a section whose mic is ACTIVE or SUSPENDED (R61, R181). -/
def State.speakingDelegates (s : State) (x : Sect) : Nat :=
  (s.seatsWhere x fun r => r.isDelegate && (r.mic = .active || r.mic = .suspended)).length

/-- A section is quiet: no mic PENDING, ACTIVE or SUSPENDED and no priority holder (R183). -/
def State.quiet (s : State) (x : Sect) : Bool :=
  (s.seatsWhere x fun r => r.mic.onFloor).isEmpty && (s.sect x).holders.isEmpty && !(s.sect x).console

/-- Priority is on in a section (R75). -/
def State.priorityOn (s : State) (x : Sect) : Bool :=
  !(s.sect x).holders.isEmpty || (s.sect x).console

/-- The number of members of the priority holder set. -/
def SectRec.holderCount (r : SectRec) : Nat := r.holders.length + if r.console then 1 else 0

/-- A slot of the section's pool is free (R66). -/
def State.slotFree (s : State) (x : Sect) (k : Nat) : Bool :=
  (s.seatsWhere x fun r => r.slot = some k).isEmpty

/-- The lowest free slot of the section's pool of eight (R66). -/
def State.freeSlot (s : State) (x : Sect) : Option Nat := (List.range 8).find? fun k => s.slotFree x k

/-- The number of held slots of the section's pool. -/
def State.heldSlots (s : State) (x : Sect) : Nat := (s.seatsWhere x fun r => r.slot.isSome).length

/-- The seats of a section in its mixed set (R104). -/
def State.mixedSet (s : State) (x : Sect) : List Seat := s.seatsWhere x fun r => r.mic.holdsSlot

/-- The number of open microphones of a section (R104). -/
def State.nom (s : State) (x : Sect) : Nat := (s.seatsWhere x fun r => r.mic = .active).length

/-- The queue entry of a seat in its section's queue. -/
def State.queueEntry (s : State) (x : Sect) (i : Seat) : Option QEntry :=
  (s.sect x).queue.find? fun e => e.seat = i

/-- The place of a seat in a queue, 1 to 24 (R48). -/
def placeIn (i : Seat) : List QEntry → Option Nat
  | [] => none
  | e :: rest => if e.seat = i then some 1 else (placeIn i rest).map (· + 1)

/-- A seat has reached the cap of its section (6.7, R99). -/
def State.capReached (s : State) (x : Sect) (i : Seat) : Bool :=
  let cap := (s.sect x).settings.cap
  cap ≠ 0 && (s.seat i).cumul ≥ cap * 60

/-- A turn is held: its seat is SUSPENDED or the section's clock is held (6.3). -/
def State.turnHeld (s : State) (i : Seat) : Bool :=
  (s.seat i).mic = .suspended || (s.sect (s.sectionOf i)).clockHold

/-- The older of two admission stamps, each with its seat: the lower stamp, and of equal stamps the
lower seat number (R64). -/
def olderStamp (s : State) (i j : Seat) : Bool :=
  let a := (s.seat i).stamp.getD 0
  let b := (s.seat j).stamp.getD 0
  a < b || (a = b && i.val < j.val)

/-- The oldest seat of a list by admission stamp. -/
def State.oldest (s : State) : List Seat → Option Seat
  | [] => none
  | i :: rest =>
    match s.oldest rest with
    | none => some i
    | some j => if olderStamp s j i then some j else some i

/-- The newest seat of a list by admission stamp. -/
def State.newest (s : State) : List Seat → Option Seat
  | [] => none
  | i :: rest =>
    match s.newest rest with
    | none => some i
    | some j => if olderStamp s i j then some j else some i

/-- Insert a seat into an ascending list of seats, once. -/
def insertSeat (i : Seat) : List Seat → List Seat
  | [] => [i]
  | j :: rest => if i = j then j :: rest else if i.val < j.val then i :: j :: rest else j :: insertSeat i rest

/-- Insert a seat into a list ordered by admission stamp, oldest first. -/
def insertByStamp (s : State) (i : Seat) : List Seat → List Seat
  | [] => [i]
  | j :: rest => if olderStamp s i j then i :: j :: rest else j :: insertByStamp s i rest

/-- Seats in the order of their admission stamps, oldest first (R142). -/
def byStamp (s : State) (l : List Seat) : List Seat := l.foldl (fun acc i => insertByStamp s i acc) []

/-! ### Shares and ownership (R134) -/

/-- The effective share input of a seat: the session part's override, otherwise the seat map's. -/
def SeatRec.effShare (r : SeatRec) : Option Nat :=
  match r.part with
  | some p =>
    match p.share with
    | some n => some n
    | none => r.map.share
  | none => r.map.share

/-- The owning seat of a source: the lowest seat whose effective share input it is. -/
def State.owner (s : State) (n : Nat) : Option Seat := seatList.find? fun i => (s.seat i).effShare = some n

/-- The source a seat owns, or none. -/
def State.ownsSource (s : State) (i : Seat) : Option (Fin 8) :=
  match (s.seat i).effShare with
  | none => none
  | some n => if h : n < 8 then if s.owner n = some i then some ⟨n, h⟩ else none else none

/-! ### Activity codes and timers (R175) -/

/-- The duration of an activity code in seconds. -/
def Activity.duration (c : Activity) : Nat :=
  c.steps * match c.res with
    | .s15 => 15
    | .s60 => 60

/-- A timer started, or retriggered, with the full duration of a code; a code of 0 steps disables it. -/
def Timer.start (c : Activity) : Timer := if c.duration = 0 then .stopped else .running c.duration

/-- A timer at a count event: it loses one second and at 0 runs out. -/
def Timer.count : Timer → Timer
  | .running left => if left ≤ 1 then .runOut else .running (left - 1)
  | .stopped => .stopped
  | .runOut => .runOut

/-- The seconds left of a running timer; none when it is stopped (a timer that has run out has
stopped, R175). -/
def Timer.left : Timer → Option Nat
  | .running left => some left
  | .stopped => none
  | .runOut => none

/-! ### Ports and notices (R193) -/

/-- The chair ports of a section (R58, Table 12-4). -/
def State.chairPorts (s : State) (x : Sect) : List Port :=
  match x, s.mode with
  | .a, .joined => [.cpa, .cpb]
  | .a, .divided => [.cpa]
  | .b, _ => [.cpb]

/-- The half of a chair port; none for the SCP and the MDP. -/
def portHalf : Port → Option Sect
  | .cpa => some .a
  | .cpb => some .b
  | .scp => none
  | .mdp => none

/-- The section a chair port commands: its own in DIVIDED mode, A for the lead port in JOINED mode,
none for the non-lead port (R32). -/
def State.commanded (s : State) (p : Port) : Option Sect :=
  match portHalf p with
  | none => none
  | some half =>
    match s.mode with
    | .divided => some half
    | .joined => if half = s.lead then some .a else none

/-- A notice joins a port's queue last, or is dropped with NOTICE_LOST at a queue of 16 (R193). -/
def joinQueue (n : Notice) (r : PortRec) : PortRec :=
  if r.notices.length < 16 then { r with notices := r.notices ++ [n] } else { r with noticeLost := true }

/-- A notice for several ports is queued to each separately (R193). -/
def State.notify (s : State) (ports : List Port) (n : Notice) : State :=
  ports.foldl (fun s p => s.modPort p (joinQueue n)) s

/-- A notice with its header, stamped with table time (Table 12-5). -/
def State.notice (s : State) (x : Option Sect) (seat : Option Seat) (d : NoticeDetail) : Notice :=
  { sect := x, seat := seat, minute := s.minute, second := s.second, detail := d }

/-! ### Bookings in the list (R155, R156) -/

/-- The booking with an id. -/
def State.booking (s : State) (id : Nat) : Option Booking := s.bookings.find? fun b => b.id = id

/-- The running booking of a section. -/
def State.runningBooking (s : State) (x : Sect) : Option Booking :=
  match (s.sect x).booking with
  | none => none
  | some id => s.booking id

/-- The end minute of a section's running booking. -/
def State.endMinute (s : State) (x : Sect) : Option Nat :=
  match s.runningBooking x with
  | none => none
  | some b => b.stop

/-- Replace the booking that has an id. -/
def State.modBooking (s : State) (id : Nat) (f : Booking → Booking) : State :=
  { s with bookings := s.bookings.map fun b => if b.id = id then f b else b }

/-- Take the booking with an id off the list; its roster entries return to the pool (R157). -/
def State.dropBooking (s : State) (id : Nat) : State :=
  { s with bookings := s.bookings.filter fun b => b.id ≠ id }

/-- The roster entries in use (R157). -/
def State.rosterUsed (s : State) : Nat := (s.bookings.map fun b => b.roster.length).sum

/-- The entries free in the pool of 512. -/
def State.rosterFree (s : State) : Nat := 512 - s.rosterUsed

/-- Two spans share a section (R156). -/
def spansShare : Span → Span → Bool
  | .a, .b => false
  | .b, .a => false
  | _, _ => true

/-- The section a booking of a span runs in (R172). -/
def spanSection : Span → Sect
  | .b => .b
  | .a => .a
  | .joined => .a

/-- The table mode a span needs (R26). -/
def spanMode : Span → Mode
  | .joined => .joined
  | .a => .divided
  | .b => .divided

/-- The span that a half names. -/
def halfSpan : Sect → Span
  | .a => .a
  | .b => .b

/-- The working table settings as they stand (R196). -/
def State.tableSettings (s : State) : TableSettings :=
  { defMode := s.defMode, k := s.k, assign := Vector.ofFn fun n => (s.screen n).assigned,
    freezeF := s.freezeF, guardG := s.guardG }

end Sys2Proof.Machine
end

