-- ==== Sys2Proof/Machine/Operands.lean ====
section
/-! DEFINITION. Operand forms: reading the fields of a payload, and encoding the fields of a reply or
a notice (R194). -/

set_option autoImplicit false

namespace Sys2Proof.Machine

/-! ### Reading a payload: most significant byte first (spec/00 1.4.3) -/

/-- The byte at a place of a payload, 0 beyond its end. -/
def byteAt (l : List Byte) (n : Nat) : Nat := (l.getD n 0).toNat

/-- Two bytes at a place. -/
def word16At (l : List Byte) (n : Nat) : Nat := byteAt l n * 256 + byteAt l (n + 1)

/-- Four bytes at a place. -/
def word32At (l : List Byte) (n : Nat) : Nat := word16At l n * 65536 + word16At l (n + 2)

/-- A seat number; none above 47. -/
def seatOf? (n : Nat) : Option Seat := if h : n < 48 then some ⟨n, h⟩ else none

/-- A section number: 0 A, 1 B. -/
def sectOf? : Nat → Option Sect
  | 0 => some .a
  | 1 => some .b
  | _ => none

/-- A screen number; none above 3. -/
def screenOf? (n : Nat) : Option ScreenNo := if h : n < 4 then some ⟨n, h⟩ else none

/-- A profile number; none above 7. -/
def profileOf? (n : Nat) : Option ProfileNo := if h : n < 8 then some ⟨n, h⟩ else none

/-- A span code: 0 A, 1 B, 2 JOINED. -/
def spanOf? : Nat → Option Span
  | 0 => some .a
  | 1 => some .b
  | 2 => some .joined
  | _ => none

/-- A mode code: 0 JOINED, 1 DIVIDED (R28). -/
def modeOf? : Nat → Option Mode
  | 0 => some .joined
  | 1 => some .divided
  | _ => none

/-- A flag: 0 off, 1 on. -/
def flagOf? : Nat → Option Bool
  | 0 => some false
  | 1 => some true
  | _ => none

/-- A floor mode code (R56). -/
def floorModeOf? : Nat → Option FloorMode
  | 0 => some .open_
  | 1 => some .queue
  | 2 => some .chair
  | _ => none

/-- A key mode code (R56). -/
def keyModeOf? : Nat → Option KeyMode
  | 0 => some .press
  | 1 => some .ptt
  | 2 => some .toggle
  | _ => none

/-- An expiry action code, in the order of Table 11-3. -/
def expiryOf? : Nat → Option ExpiryAction
  | 0 => some .close
  | 1 => some .notify
  | _ => none

/-- A priority mode code, in the order of Table 11-3. -/
def prioModeOf? : Nat → Option PriorityMode
  | 0 => some .mute
  | 1 => some .cancel
  | _ => none

/-- A class code (R197). -/
def classOf? : Nat → Option SeatClass
  | 0 => some .delegate
  | 1 => some .chair
  | _ => none

/-- A share input code: 0 to 7, or FFh for none; anything else is out of range (R158, R197). -/
def shareOf? (n : Nat) : Option (Option Nat) :=
  if n < 8 then some (some n) else if n = 255 then some none else none

/-- An activity code: resolution byte 0 for 15 s and 1 for 60 s, then its step count (R194). -/
def activityOf? (res steps : Nat) : Option Activity :=
  if 15 < steps then none else match res with
    | 0 => some ⟨.s15, steps⟩
    | 1 => some ⟨.s60, steps⟩
    | _ => none

/-- A number within its range. -/
def within? (lo hi n : Nat) : Option Nat := if lo ≤ n ∧ n ≤ hi then some n else none

/-- A gain, factor or volume clamped to 16384 (R119, R120). -/
def clampGain (n : Nat) : Nat := min n 16384

/-- A content code with its input number (R194); the input number is read for INPUT alone. -/
def contentOf? (code input : Nat) : Option Content :=
  match code with
  | 0 => if h : input < 8 then some (.input ⟨input, h⟩) else none
  | 1 => some .presenter
  | 2 => some .speakers
  | 3 => some .queue
  | 4 => some .agenda
  | 5 => some .blank
  | _ => none

/-- A tile with its crop clamped so that its window lies within the picture (R139): at most
16 − w columns and 9 − h rows. -/
def clampCrop (t : Tile) : Tile :=
  { t with cropC := min t.cropC (16 - (t.c1 - t.c0 + 1)), cropR := min t.cropR (9 - (t.r1 - t.r0 + 1)) }

/-- The tile entry of eight bytes at a place of a payload, clamped; none where LAYOUT would refuse it
(R140, R194). -/
def tileAt (l : List Byte) (n : Nat) : Option Tile :=
  let c0 := byteAt l n
  let c1 := byteAt l (n + 1)
  let r0 := byteAt l (n + 2)
  let r1 := byteAt l (n + 3)
  match contentOf? (byteAt l (n + 4)) (byteAt l (n + 5)) with
  | none => none
  | some content =>
    if c1 ≤ 15 ∧ r1 ≤ 8 ∧ c0 ≤ c1 ∧ r0 ≤ r1 then
      some (clampCrop { c0 := c0, c1 := c1, r0 := r0, r1 := r1, content := content,
                        cropC := byteAt l (n + 6), cropR := byteAt l (n + 7) })
    else none

/-- `count` tile entries from a place of a payload on. -/
def tilesAt (l : List Byte) : Nat → Nat → Option Layout
  | 0, _ => some []
  | count + 1, n =>
    match tileAt l n, tilesAt l count (n + 8) with
    | some t, some rest => some (t :: rest)
    | _, _ => none

/-! ### Encoding fields (R194) -/

/-- One byte. -/
def enc8 (n : Nat) : List Byte := [BitVec.ofNat 8 n]

/-- Two bytes, most significant first. -/
def enc16 (n : Nat) : List Byte := [BitVec.ofNat 8 (n / 256), BitVec.ofNat 8 n]

/-- Four bytes, most significant first. -/
def enc32 (n : Nat) : List Byte := enc16 (n / 65536) ++ enc16 n

/-- Two bytes in two's complement. -/
def encSigned16 (n : Int) : List Byte :=
  let w := (BitVec.ofInt 16 n).toNat
  enc16 w

/-- An optional field of one byte: FFh when absent. -/
def opt8 (n : Option Nat) : List Byte := enc8 (n.getD 0xFF)

/-- An optional field of two bytes: FFFFh when absent. -/
def opt16 (n : Option Nat) : List Byte := enc16 (n.getD 0xFFFF)

/-- An optional minute: FFFFFFFFh when absent. -/
def opt32 (n : Option Nat) : List Byte := enc32 (n.getD 0xFFFFFFFF)

/-- A text: a length byte, then its characters. -/
def encText (t : Text) : List Byte := enc8 t.length ++ t

/-- An optional text: FFh in place of the length byte when absent (assumption 7). -/
def optText : Option Text → List Byte
  | none => enc8 0xFF
  | some t => encText t

/-- A flag: 0 clear, 1 set. -/
def encFlag (b : Bool) : List Byte := enc8 (if b then 1 else 0)

/-- A list: a count byte, then its items. -/
def encList {α : Type} (f : α → List Byte) (l : List α) : List Byte := enc8 l.length ++ l.flatMap f

/-! ### Enumerated values: the place in the list where the owning rule gives it, from 0 -/

def sectCode : Sect → Nat
  | .a => 0
  | .b => 1

def sideCode : Side → Nat
  | .north => 0
  | .south => 1

def Presence.code : Presence → Nat
  | .absent => 0
  | .detected => 1
  | .powering => 2
  | .identifying => 3
  | .configuring => 4
  | .ready => 5
  | .fault => 6

def UnitKind.code : UnitKind → Nat
  | .delegateUnit => 0
  | .chairUnit => 1

def FaultReason.code : FaultReason → Nat
  | .timeout => 0
  | .lost => 1

def LostCause.code : LostCause → Nat
  | .missed => 0
  | .restart => 1
  | .reseat => 2

def SeatClass.code : SeatClass → Nat
  | .delegate => 0
  | .chair => 1

def Role.code : Role → Nat
  | .delegate => 0
  | .chair => 1

def Mic.code : Mic → Nat
  | .closed => 0
  | .pending => 1
  | .active => 2
  | .suspended => 3
  | .closing => 4

def FloorMode.code : FloorMode → Nat
  | .open_ => 0
  | .queue => 1
  | .chair => 2

def KeyMode.code : KeyMode → Nat
  | .press => 0
  | .ptt => 1
  | .toggle => 2

def ExpiryAction.code : ExpiryAction → Nat
  | .close => 0
  | .notify => 1

def PriorityMode.code : PriorityMode → Nat
  | .mute => 0
  | .cancel => 1

def Mode.code : Mode → Nat
  | .joined => 0
  | .divided => 1

def SectState.code : SectState → Nat
  | .free => 0
  | .grace => 1
  | .session => 2
  | .ending => 3
  | .overrun => 4
  | .merged => 5

def EntryClass.code : EntryClass → Nat
  | .promoted => 0
  | .normal => 1

def Origin.code : Origin → Nat
  | .explicit => 0
  | .follow => 1

def CaptionKind.code : CaptionKind → Nat
  | .speakers => 0
  | .queue => 1
  | .agenda => 2

/-- The link state by the list of 9.5, in the SCREEN reply and the SCREEN notice alike: ONLINE 1 and OFFLINE 2, though
R148 lists only these two for the notice (DEDUCED, assumption 20). -/
def Link.code : Link → Nat
  | .unknown => 0
  | .online => 1
  | .offline => 2

def Span.code : Span → Nat
  | .a => 0
  | .b => 1
  | .joined => 2

def BookingOrigin.code : BookingOrigin → Nat
  | .scheduled => 0
  | .walkIn => 1

def BookingState.code : BookingState → Nat
  | .pending => 0
  | .running => 1

def FloorChange.code : FloorChange → Nat
  | .opened => 0
  | .pending => 1
  | .suspended => 2
  | .resumed => 3
  | .closed => 4

def FloorReason.code : FloorReason → Nat
  | .request => 0
  | .advance => 1
  | .grant => 2
  | .next => 3
  | .override => 4
  | .chairKey => 5
  | .priority => 6
  | .slot => 7
  | .priorityEnd => 8
  | .key => 9
  | .close => 10
  | .closeAll => 11
  | .overridden => 12
  | .expired => 13
  | .cancelled => 14
  | .lost => 15
  | .overrun => 16
  | .ended => 17

def QueueChange.code : QueueChange → Nat
  | .added => 0
  | .removed => 1
  | .promoted => 2
  | .cleared => 3
  | .none => 4

def QueueReason.code : QueueReason → Nat
  | .request => 0
  | .granted => 1
  | .withdrawn => 2
  | .denied => 3
  | .lost => 4
  | .cap => 5
  | .promote => 6
  | .ended => 7
  | .overrun => 8
  | .refused => 9

def RefusalCause.code : RefusalCause → Nat
  | .overrun => 0
  | .cap => 1
  | .full => 2
  | .priority => 3
  | .limit => 4
  | .floor => 5

def TurnEvent.code : TurnEvent → Nat
  | .warning => 0
  | .expired => 1
  | .extended => 2
  | .cap => 3

def SessionReason.code : SessionReason → Nat
  | .start => 0
  | .walkIn => 1
  | .checkIn => 2
  | .endChanged => 3
  | .timeSet => 4
  | .warning => 5
  | .overrun => 6
  | .noShow => 7
  | .end_ => 8
  | .time => 9
  | .idle => 10
  | .overrunDone => 11
  | .cleared => 12
  | .external => 13
  | .mode => 14

def CheckInSource.code : CheckInSource → Nat
  | .key => 0
  | .console => 1
  | .scp => 2

def EndReason.code : EndReason → Nat
  | .noShow => 0
  | .end_ => 1
  | .time => 2
  | .idle => 3
  | .overrunDone => 4
  | .cleared => 5
  | .external => 6

def BookingChange.code : BookingChange → Nat
  | .added => 0
  | .moved => 1
  | .removed => 2
  | .walkIn => 3
  | .endChanged => 4
  | .cleared => 5

def BookingReason.code : BookingReason → Nat
  | .cancelled => 0
  | .expired => 1
  | .ended => 2
  | .move => 3
  | .extend => 4
  | .bounded => 5

def ClipCounter.code : ClipCounter → Nat
  | .bus => 0
  | .feed => 1

def ClipDir.code : ClipDir → Nat
  | .positive => 0
  | .negative => 1

/-- Reply codes of Table 12-2. -/
def ReplyCode.code : ReplyCode → Nat
  | .ok => 0x00
  | .starting => 0x01
  | .busy => 0x02
  | .illegal => 0x03
  | .notPermitted => 0x04
  | .wrongState => 0x05
  | .notLead => 0x06
  | .range => 0x07
  | .conflict => 0x08
  | .frozen => 0x09
  | .full => 0x0A
  | .notFound => 0x0B
  | .tooLate => 0x0C
  | .limit => 0x0D
  | .capReached => 0x0E
  | .noTime => 0x0F
  | .length => 0x10

/-! ### Composite fields -/

/-- An optional seat. -/
def optSeat (i : Option Seat) : List Byte := opt8 (i.map fun j => j.val)

/-- A presenter with its origin, or none. -/
def encPresenter : Option (Seat × Origin) → List Byte
  | none => opt8 none ++ opt8 none
  | some (i, o) => enc8 i.val ++ enc8 o.code

/-- An activity code (R194). -/
def encActivity (c : Activity) : List Byte :=
  enc8 (match c.res with
    | .s15 => 0
    | .s60 => 1) ++ enc8 c.steps

/-- A content and its input number; FFh where the content is not INPUT (assumption 7). -/
def encContent : Content → List Byte
  | .input n => enc8 0 ++ enc8 n.val
  | .presenter => enc8 1 ++ opt8 none
  | .speakers => enc8 2 ++ opt8 none
  | .queue => enc8 3 ++ opt8 none
  | .agenda => enc8 4 ++ opt8 none
  | .blank => enc8 5 ++ opt8 none

/-- A tile entry of eight bytes (R194). -/
def encTile (t : Tile) : List Byte :=
  enc8 t.c0 ++ enc8 t.c1 ++ enc8 t.r0 ++ enc8 t.r1 ++ encContent t.content ++ enc8 t.cropC ++
    enc8 t.cropR

/-- A layout: its tile count and its tiles. -/
def encLayout (l : Layout) : List Byte := encList encTile l

/-- Every field of a profile in the order of Table 11-3, the layouts last (R187). The setting presenter follows speaker,
which the table lists on, off, is coded as a flag, off 0 and on 1 (DESIGN CHOICE, assumption 47). -/
def encProfile (p : Profile) : List Byte :=
  enc8 p.floorMode.code ++ encFlag p.override ++ enc8 p.limit ++ enc8 p.keyMode.code ++
    enc16 p.budget ++ enc8 p.warn ++ enc8 p.expiry.code ++ enc8 p.prioMode.code ++ enc8 p.cap ++
    encActivity p.grace ++ encActivity p.idle ++ enc8 p.ending ++ enc8 p.overrun ++
    enc16 p.d1 ++ enc16 p.d2 ++ enc16 p.d3 ++ enc16 p.d4 ++ enc16 p.volume ++ enc8 p.bright ++
    enc8 p.blink ++ encFlag p.follows ++ p.layouts.toList.flatMap encLayout

/-- A seat map entry: class, share input or none, trim. -/
def encEntry (e : MapEntry) : List Byte := enc8 e.cls.code ++ opt8 e.share ++ enc16 e.trim

/-! ### The PROFILE payload (R187) -/

/-- Bytes of the scalar fields of a PROFILE payload, profile number included. -/
def profileScalars : Nat := 30

/-- The places of the four tile counts of a PROFILE payload, and its whole length, where every tile
count is 1 to 4 and lies in the payload. -/
def layoutPlaces (l : List Byte) : Nat → Nat → Option (List Nat)
  | 0, at_ => if l.length = at_ then some [] else none
  | count + 1, at_ =>
    if at_ < l.length ∧ 1 ≤ byteAt l at_ ∧ byteAt l at_ ≤ 4 then
      (layoutPlaces l count (at_ + 1 + 8 * byteAt l at_)).map (at_ :: ·)
    else none

/-- The length of a PROFILE payload agrees with its tile counts. -/
def profileLengthOk (l : List Byte) : Bool := (layoutPlaces l 4 profileScalars).isSome

/-- The layout whose tile count stands at a place. -/
def layoutAt (l : List Byte) (at_ : Nat) : Option Layout := tilesAt l (byteAt l at_) (at_ + 1)

/-- The four layouts of a PROFILE payload. -/
def layoutsOf? (l : List Byte) : Option (Vector Layout 4) :=
  match layoutPlaces l 4 profileScalars with
  | some [w, x, y, z] =>
    match layoutAt l w, layoutAt l x, layoutAt l y, layoutAt l z with
    | some lw, some lx, some ly, some lz => some #v[lw, lx, ly, lz]
    | _, _, _, _ => none
  | _ => none

/-- The profile of a PROFILE payload after clamping; none where a field is outside its range. The setting presenter
follows speaker is read as a flag, 0 off and 1 on (DESIGN CHOICE, assumption 47). -/
def profileFields? (l : List Byte) : Option Profile := do
  let floorMode ← floorModeOf? (byteAt l 1)
  let override ← flagOf? (byteAt l 2)
  let limit ← within? 1 6 (byteAt l 3)
  let keyMode ← keyModeOf? (byteAt l 4)
  let budget ← within? 0 360 (word16At l 5)
  let warn ← within? 0 120 (byteAt l 7)
  let expiry ← expiryOf? (byteAt l 8)
  let prioMode ← prioModeOf? (byteAt l 9)
  let cap ← within? 0 120 (byteAt l 10)
  let grace ← activityOf? (byteAt l 11) (byteAt l 12)
  let idle ← activityOf? (byteAt l 13) (byteAt l 14)
  let ending ← within? 0 15 (byteAt l 15)
  let overrun ← within? 0 10 (byteAt l 16)
  let blink ← within? 0 15 (byteAt l 28)
  let follows ← flagOf? (byteAt l 29)
  let layouts ← layoutsOf? l
  pure { floorMode := floorMode, override := override, limit := limit, keyMode := keyMode,
         budget := budget, warn := warn, expiry := expiry, prioMode := prioMode, cap := cap,
         grace := grace, idle := idle, ending := ending, overrun := overrun,
         d1 := clampGain (word16At l 17), d2 := clampGain (word16At l 19),
         d3 := clampGain (word16At l 21), d4 := clampGain (word16At l 23),
         volume := clampGain (word16At l 25), bright := byteAt l 27, blink := blink,
         follows := follows, layouts := layouts }

/-! ### The ROSTER payload (R158): id, entry count, entries -/

/-- One entry of a ROSTER payload as its bytes stand: seat, share input code, name. -/
structure RawEntry where
  seat : Nat
  share : Nat
  name : List Byte
  deriving DecidableEq, Repr

/-- `count` entries that fill the bytes exactly; none where the length does not agree. -/
def rawEntries : Nat → List Byte → Option (List RawEntry)
  | 0, rest => if rest = [] then some [] else none
  | count + 1, seat :: share :: n :: rest =>
    if n.toNat ≤ rest.length then
      (rawEntries count (rest.drop n.toNat)).map
        ({ seat := seat.toNat, share := share.toNat, name := rest.take n.toNat } :: ·)
    else none
  | _ + 1, _ => none

/-- The 1 to 8 entries of a ROSTER payload (assumption 8: R194's count byte stands before them). -/
def rosterRaw (l : List Byte) : Option (List RawEntry) :=
  if 3 ≤ l.length ∧ 1 ≤ byteAt l 2 ∧ byteAt l 2 ≤ 8 then rawEntries (byteAt l 2) (l.drop 3) else none

/-- A roster entry as R158 takes it: name cut to 24 and made printable; none where a field is out of
range. -/
def rosterEntry? (r : RawEntry) : Option RosterEntry :=
  match seatOf? r.seat, shareOf? r.share with
  | some i, some share => if r.name = [] then none else some ⟨i, takeText 24 r.name, share⟩
  | _, _ => none

/-! ### Notices and replies as bytes (Table 12-5) -/

/-- The kind code of a notice (Table 12-4). -/
def NoticeDetail.kind : NoticeDetail → Nat
  | .seatReady .. => 1
  | .seatLost .. => 1
  | .seatFault .. => 1
  | .seatAbsent => 1
  | .seatMismatch .. => 1
  | .floor .. => 2
  | .queue .. => 3
  | .turn .. => 4
  | .session .. => 5
  | .booking .. => 6
  | .screen .. => 7
  | .clip .. => 8

/-- The detail fields of a notice, in the order of its owning rule. -/
def NoticeDetail.bytes : NoticeDetail → List Byte
  | .seatReady kind => enc8 0 ++ opt8 (kind.map UnitKind.code)
  | .seatLost cause => enc8 1 ++ enc8 cause.code
  | .seatFault step reason => enc8 2 ++ enc8 step ++ enc8 reason.code
  | .seatAbsent => enc8 3
  | .seatMismatch kind => enc8 4 ++ enc8 kind.code
  | .floor change reason before after slot stamp role count =>
    enc8 change.code ++ enc8 reason.code ++ enc8 before.code ++ enc8 after.code ++ opt8 slot ++
      opt16 stamp ++ opt8 (role.map Role.code) ++ enc8 count
  | .queue change reason cause cls stamp place length =>
    enc8 change.code ++ enc8 reason.code ++ opt8 (cause.map RefusalCause.code) ++
      opt8 (cls.map EntryClass.code) ++ opt16 stamp ++ opt8 place ++ enc8 length
  | .turn event budget remaining warned expired added cumul held =>
    enc8 event.code ++ opt16 budget ++
      (match remaining with
        | none => opt16 none
        | some n => encSigned16 n) ++
      encFlag warned ++ encFlag expired ++ opt16 added ++ enc16 cumul ++ encFlag held
  | .session before after reason source id span stop loaded mode lead =>
    enc8 before.code ++ enc8 after.code ++ enc8 reason.code ++ opt8 (source.map CheckInSource.code) ++
      opt16 id ++ opt8 (span.map Span.code) ++ opt32 stop ++ enc8 loaded.val ++ enc8 mode.code ++
      enc8 (sectCode lead)
  | .booking change id span start stop reason ended oldStop =>
    enc8 change.code ++ opt16 id ++ opt8 (span.map Span.code) ++ opt32 start ++ opt32 stop ++
      opt8 (reason.map BookingReason.code) ++ opt8 (ended.map EndReason.code) ++ opt32 oldStop
  | .screen number link version => enc8 number.val ++ enc8 link.code ++ opt16 version
  | .clip counter dir => enc8 counter.code ++ enc8 dir.code

/-- A notice as its message (Table 12-5). -/
def Notice.bytes (n : Notice) : List Byte :=
  enc8 n.detail.kind ++ opt8 (n.sect.map sectCode) ++ optSeat n.seat ++ opt32 n.minute ++
    enc8 n.second ++ n.detail.bytes

/-- A reply as its message: 80h, the command code echoed, the reply code, the payload, of which at
most 252 bytes are carried (R191, R194). -/
def Reply.bytes (r : Reply) : List Byte :=
  enc8 0x80 ++ [r.command] ++ enc8 r.code.code ++ r.payload.take 252

end Sys2Proof.Machine
end

