-- ==== Sys2Proof/Machine/Flags.lean ====
section
/-! DEFINITION. Every flag computation: the port status byte and its sticky flags (Table 12-1, R190),
the warned and expired flags of a turn (R87 to R91, R96), and the steps of a ramp, a record version, a
screen version and a stamp or request counter. -/

set_option autoImplicit false

namespace Sys2Proof.Machine

/-! ### Port status (R190) -/

/-- One bit of the status byte. -/
def statusBit (b : Bool) (n : Nat) : Nat := if b then 2 ^ n else 0

/-- The status byte as formed from the port record when select falls (Table 12-1). -/
def statusByte (starting : Bool) (r : PortRec) : Byte :=
  BitVec.ofNat 8 (statusBit starting 7 + statusBit r.busy 6 + statusBit r.reply.isSome 5 +
    statusBit (!r.notices.isEmpty) 4 + statusBit r.noticeLost 3 + statusBit r.framing 2 +
    statusBit r.overrun 1 + statusBit r.replyLost 0)

/-- The sticky flags that the status byte showed set are cleared when it has been shifted out whole. -/
def clearSticky (r : PortRec) : PortRec :=
  { r with noticeLost := false, framing := false, overrun := false, replyLost := false }

/-- The port's notice line is active: driven low (R193). -/
def PortRec.lineActive (r : PortRec) : Bool := r.reply.isSome || !r.notices.isEmpty

/-! ### Turns -/

/-- A turn at its start, with budget and warning time in seconds (R87). -/
def startTurn (budget warn : Nat) : Turn :=
  { budget := budget, remaining := budget, warned := budget ≠ 0 && warn ≠ 0 && budget ≤ warn,
    expired := false, reported := false }

/-- A limited turn at a count event while it is running: the turn after it, whether it is warned and
whether it expires (R88 to R91). Under CLOSE it is not counted below 0, under NOTIFY not below −3600. -/
def countTurn (warn : Nat) (act : ExpiryAction) (t : Turn) : Turn × Bool × Bool :=
  if t.budget = 0 then (t, false, false)
  else if act = .close ∧ t.remaining ≤ 0 then (t, false, false)
  else if t.remaining ≤ -3600 then (t, false, false)
  else
    let rem := t.remaining - 1
    let warnNow := warn ≠ 0 && rem = warn && !t.warned
    let expireNow := rem = 0
    ({ t with remaining := rem, warned := t.warned || warnNow, expired := t.expired || expireNow,
              reported := t.reported || (expireNow && act = .close) },
     warnNow, expireNow)

/-- A limited turn with seconds added (R96). -/
def addToTurn (warn seconds : Nat) (t : Turn) : Turn :=
  let rem := min (t.remaining + seconds) 3600
  { t with remaining := rem, warned := if rem > warn then false else t.warned,
           expired := if rem > 0 then false else t.expired }

/-- A turn as it resumes: standing at 0 and expired under CLOSE, its expiry is reported again (R90,
R93). -/
def resumeTurn (act : ExpiryAction) (t : Turn) : Turn :=
  { t with reported := t.reported || (act = .close && t.budget ≠ 0 && t.remaining = 0 && t.expired) }

/-! ### Counters -/

/-- A record version advanced by one, wrapping past 254 to 1 (R123). -/
def nextRecordVersion (v : Nat) : Nat := if v ≥ 254 then 1 else v + 1

/-- The version of a changed record: advanced, and advanced once more where that is the acknowledged
version (R123). -/
def bumpVersion (v : Nat) (acked : Option Nat) : Nat :=
  let n := nextRecordVersion v
  if acked = some n then nextRecordVersion n else n

/-- The version of the next update of a screen: 1 at first, wrapping past 65534 to 1 (R144). -/
def nextScreenVersion : Option Nat → Nat
  | none => 1
  | some v => if v ≥ 65534 then 1 else v + 1

/-- The admission stamp counter advanced: it stays at 65534 (R64). -/
def nextStamp (v : Nat) : Nat := if v ≥ 65534 then 65534 else v + 1

/-- The request counter advanced, wrapping past 65534 to 1 (R48). -/
def nextRequest (v : Nat) : Nat := if v ≥ 65534 then 1 else v + 1

/-- A counter of 16 bits raised by one; at 65535 it stays (R97, R115). -/
def raise16 (v : Nat) : Nat := if v ≥ 65535 then 65535 else v + 1

/-- The ramp level after a step, by mic state (R113). -/
def stepRamp (m : Mic) (level : Nat) : Nat :=
  match m with
  | .active => if level < 32 then level + 1 else level
  | .suspended => level - 1
  | .closing => level - 1
  | .closed => 0
  | .pending => 0

end Sys2Proof.Machine
end

