-- ==== Sys2Proof/Machine/Indication.lean ====
section
/-! DEFINITION. The indication composer: what each seat's LED ring and nameplate show
(spec/07_seat_indication_and_nameplates.md). -/

set_option autoImplicit false

namespace Sys2Proof.Machine

/-- The seat's entry stands at the head of its section's queue. -/
def State.atHead (s : State) (x : Sect) (i : Seat) : Bool := placeIn i (s.sect x).queue = some 1

/-- A limited turn with its expired flag set (Table 8-2). -/
def SeatRec.inOvertime (r : SeatRec) : Bool :=
  match r.turn with
  | some t => t.budget ≠ 0 && t.expired
  | none => false

/-- A limited turn with its warned flag set (Table 8-2). -/
def SeatRec.inWarning (r : SeatRec) : Bool :=
  match r.turn with
  | some t => t.budget ≠ 0 && t.warned
  | none => false

/-- The ring state of a seat of a section in SESSION, ENDING or OVERRUN (Table 8-2). -/
def State.openRingState (s : State) (x : Sect) (i : Seat) : RingState :=
  let r := s.seat i
  if r.mic = .suspended then .suspended
  else if r.mic = .active && r.inOvertime then .overtime
  else if r.mic = .active && r.inWarning then .warning
  else if r.mic = .active || r.mic = .pending then .speaking
  else match placeIn i (s.sect x).queue with
    | some 1 => .next
    | some _ => .request
    | none => .dark

/-- The ring state of a READY seat (R125). -/
def State.ringState (s : State) (i : Seat) : RingState :=
  let x := s.sectionOf i
  if (s.sect x).state.floorOpen then s.openRingState x i else .dark

/-- The blink half-period a ring state carries, in units of 0.5 ms (Table 8-1). -/
def blinkOf (h : Nat) : RingState → Nat
  | .request => h
  | .warning => h / 2
  | .overtime => h / 4
  | .dark => 0
  | .next => 0
  | .speaking => 0
  | .suspended => 0

/-- The LED ring record composed from the state, with the seat's denial tag (R124). -/
def State.composeRing (s : State) (i : Seat) : RingRec :=
  let p := (s.sect (s.sectionOf i)).settings
  let st := s.ringState i
  { state := st, duty := p.bright, blink := blinkOf (halfPeriod p.blink) st,
    flash := halfPeriod p.blink / 4, tag := (s.seat i).denyTag }

/-- The name of a seat in a running section: its occupant name, otherwise its label (R126, R141). -/
def State.seatName (s : State) (i : Seat) : Text :=
  match (s.seat i).part with
  | some p =>
    match p.name with
    | some t => t
    | none => seatLabel i
  | none => seatLabel i

/-- The status line of a section with nothing else to show: ENDS hh:mm in ENDING, the running
booking's title cut to 24 otherwise (Tables 8-3, 8-4). -/
def State.quietStatus (s : State) (x : Sect) : Text :=
  match s.runningBooking x with
  | none => []
  | some b =>
    if (s.sect x).state = .ending then
      match b.stop with
      | some e => txt "ENDS " ++ hhmm e
      | none => b.title.take 24
    else b.title.take 24

/-- The status line of a delegate whose mic is ACTIVE (Table 8-3). -/
def State.activeStatus (s : State) (x : Sect) (r : SeatRec) : Text :=
  match r.turn with
  | none => txt "SPEAKING"
  | some t =>
    if t.budget = 0 then txt "SPEAKING"
    else if t.expired then txt "OVERTIME " ++ mmss t.remaining.natAbs
    else if (s.sect x).clockHold then txt "TIME HELD " ++ mmss t.remaining.natAbs
    else txt "TIME LEFT " ++ mmss t.remaining.natAbs

/-- The status line of an acting delegate (Table 8-3). -/
def State.delegateStatus (s : State) (x : Sect) (i : Seat) : Text :=
  let r := s.seat i
  match r.mic with
  | .suspended => txt "ON HOLD"
  | .active => s.activeStatus x r
  | .pending => txt "SPEAKING"
  | .closed | .closing =>
    match placeIn i (s.sect x).queue with
    | some 1 => txt "YOU ARE NEXT"
    | some n => txt "WAITING " ++ dec n
    | none =>
      if (s.sect x).state = .overrun then txt "REQUESTS CLOSED"
      else if s.capReached x i then txt "SPEAKING LIMIT REACHED"
      else s.quietStatus x

/-- The status line of an acting chair (Table 8-4). -/
def State.chairStatus (s : State) (x : Sect) (i : Seat) : Text :=
  let r := s.seat i
  if (s.sect x).holders.contains i then txt "PRIORITY ON"
  else if r.mic = .active || r.mic = .pending then txt "SPEAKING"
  else if (s.sect x).state = .overrun then txt "MEETING OVERRUN"
  else if !(s.sect x).queue.isEmpty then txt "QUEUE " ++ dec (s.sect x).queue.length
  else s.quietStatus x

/-- The next booking of a seat: the first PENDING booking, in booking order, whose span is JOINED or
the seat's half (R128). -/
def State.nextBooking (s : State) (i : Seat) : Option Booking :=
  s.bookings.find? fun b => b.state = .pending && (b.span = .joined || b.span = halfSpan (s.halfOf i))

/-- The idle display of a seat of a FREE section (R128). -/
def State.idlePlate (s : State) (i : Seat) : PlateRec :=
  match s.nextBooking i with
  | none => ⟨[], txt "AVAILABLE"⟩
  | some b =>
    { name := match b.roster.find? fun e => e.seat = i with
        | some e => e.name
        | none => b.title
      status := txt "NEXT " ++ hhmmSpan (b.start.getD 0) (b.stop.getD 0) }

/-- The nameplate record composed from the state (R126 to R128). -/
def State.composePlate (s : State) (i : Seat) : PlateRec :=
  let x := s.sectionOf i
  let st := (s.sect x).state
  if st.running then
    { name := s.seatName i
      status :=
        if st = .grace then txt "PRESS KEY TO BEGIN"
        else if (s.seat i).isChair then s.chairStatus x i
        else s.delegateStatus x i }
  else s.idlePlate i

/-- A record after recomposition: the new ring record takes a new version only where it differs
(R123). -/
def putRing (new : RingRec) (r : SeatRec) : SeatRec :=
  if r.ring = new then r else { r with ring := new, ringVer := bumpVersion r.ringVer r.ackRing }

/-- The same for the nameplate record. -/
def putPlate (new : PlateRec) (r : SeatRec) : SeatRec :=
  if r.plate = new then r else { r with plate := new, plateVer := bumpVersion r.plateVer r.ackPlate }

/-- The composer recomposes both records of every READY seat from the state as it stands (R123, R129,
R131). A seat whose content is unchanged keeps its records and versions. -/
def State.recompose (s : State) : State :=
  s.mapSeats fun i r =>
    if r.presence = .ready then putPlate (s.composePlate i) (putRing (s.composeRing i) r) else r

/-- A denial of a READY seat advances its denial tag, wrapping past 255 to 0; the recomposition that
ends the event carries the new tag in the ring record (R130). -/
def State.denial (s : State) (i : Seat) : State :=
  s.modSeat i fun r => if r.presence = .ready then { r with denyTag := (r.denyTag + 1) % 256 } else r

end Sys2Proof.Machine
end

