-- ==== Sys2Proof/Machine/Screens.lean ====
section
/-! DEFINITION. The screen router: presenters, captions, resolution of layouts and the display link
update protocol (spec/08_presentation_sources_and_wall_screens.md). -/

set_option autoImplicit false

namespace Sys2Proof.Machine

/-! ### The presenter (R135, R136) -/

/-- The presenter that a removal falls back to: with presenter follows speaker on, the ACTIVE source
owner of the section with the newest admission stamp, origin FOLLOW; otherwise none (R136). -/
def State.fallbackPresenter (s : State) (x : Sect) : Option (Seat × Origin) :=
  if (s.sect x).settings.follows then
    (s.newest ((s.seatsWhere x fun r => r.mic = .active).filter fun i => (s.ownsSource i).isSome)).map
      fun i => (i, Origin.follow)
  else none

/-- Remove a section's presenter and fall back (R136). -/
def State.removePresenter (s : State) (x : Sect) : State :=
  let p := s.fallbackPresenter x
  s.modSect x fun r => { r with presenter := p }

/-- A presenter may stay: its seat is of the section, READY, and owns a source (R135). -/
def State.presenterStands (s : State) (x : Sect) : Bool :=
  match (s.sect x).presenter with
  | none => true
  | some (i, _) => s.sectionOf i = x && (s.seat i).presence = .ready && (s.ownsSource i).isSome

/-- The check of R136 on one section's presenter. -/
def State.checkPresenter (s : State) (x : Sect) : State :=
  if s.presenterStands x then s else s.removePresenter x

/-- The check of R136 on both presenters, A then B. -/
def State.checkPresenters (s : State) : State := (s.checkPresenter .a).checkPresenter .b

/-- A seat has entered ACTIVE from CLOSED, PENDING or CLOSING: with presenter follows speaker on and
no EXPLICIT presenter, it becomes the FOLLOW presenter if it owns a source (R135). -/
def State.followSpeaker (s : State) (i : Seat) : State :=
  let x := s.sectionOf i
  let r := s.sect x
  let explicit := match r.presenter with
    | some (_, .explicit) => true
    | _ => false
  if r.settings.follows && !explicit && (s.ownsSource i).isSome then
    s.modSect x fun r => { r with presenter := some (i, .follow) }
  else s

/-! ### Captions (R142) -/

/-- The SPEAKERS caption: the ACTIVE seats of the section, oldest stamp first. -/
def State.speakersCaption (s : State) (x : Sect) : Shown :=
  let l := byStamp s (s.seatsWhere x fun r => r.mic = .active)
  .caption .speakers (if l.isEmpty then txt "NO SPEAKERS" else txt "SPEAKERS")
    ((l.map fun i => (s.seatName i).take 32).take 8)

/-- The lines of queue entries from a place on. -/
def State.queueLines (s : State) : Nat → List QEntry → List Text
  | _, [] => []
  | place, e :: rest =>
    (dec place ++ txt " " ++ s.seatName e.seat).take 32 :: s.queueLines (place + 1) rest

/-- The QUEUE caption: the section's queue in its order; beyond 8 entries, 7 lines and the rest as
+m MORE. -/
def State.queueCaption (s : State) (x : Sect) : Shown :=
  let q := (s.sect x).queue
  let lines := s.queueLines 1 q
  .caption .queue (txt "QUEUE " ++ dec q.length)
    (if q.length ≤ 8 then lines
     else lines.take 7 ++ [txt "+" ++ dec (q.length - 7) ++ txt " MORE"])

/-- A booking concerns a section in the AGENDA caption (R142). -/
def State.concerns (s : State) (x : Sect) (b : Booking) : Bool :=
  match s.mode with
  | .joined => true
  | .divided => b.span = .joined || b.span = halfSpan x

/-- The state line of a running section in its AGENDA caption. -/
def agendaState (st : SectState) (stop : Option Nat) : Text :=
  match st with
  | .grace => txt "AWAITING CHECK-IN"
  | .session =>
    match stop with
    | some e => txt "NOW UNTIL " ++ hhmm e
    | none => txt "NOW"
  | .ending => txt "ENDS " ++ hhmm (stop.getD 0)
  | .overrun => txt "OVERRUN"
  | .free => []
  | .merged => []

/-- The line of a PENDING booking in the AGENDA caption. -/
def agendaLine (b : Booking) : Text :=
  (hhmmSpan (b.start.getD 0) (b.stop.getD 0) ++ txt " " ++ b.title).take 32

/-- The AGENDA caption. -/
def State.agendaCaption (s : State) (x : Sect) : Shown :=
  let coming := ((s.bookings.filter fun b => b.state = .pending && s.concerns x b).map agendaLine)
  match s.runningBooking x with
  | some b => .caption .agenda b.title ((agendaState (s.sect x).state b.stop :: coming).take 8)
  | none => .caption .agenda (txt "AVAILABLE") (coming.take 8)

/-! ### Resolution (R141, R143) -/

/-- NO SIGNAL for a source: the heading NO SIGNAL and the single line INPUT n (R141). -/
def noSignalOf (n : Fin 8) : Shown := .noSignal n (txt "NO SIGNAL") (txt "INPUT " ++ dec n.val)

/-- What a tile of a source shows: its picture when the source is present, NO SIGNAL when not. -/
def State.showSource (s : State) (t : Tile) (n : Fin 8) : Shown :=
  if s.present[n] then .picture n t.cropC t.cropR else noSignalOf n

/-- The resolved content of a tile of a section (R141). -/
def State.resolveContent (s : State) (x : Sect) (t : Tile) : Shown :=
  match t.content with
  | .input n => s.showSource t n
  | .presenter =>
    match (s.sect x).presenter with
    | none => s.speakersCaption x
    | some (i, _) =>
      match s.ownsSource i with
      | some n => s.showSource t n
      | none => s.speakersCaption x
  | .speakers => s.speakersCaption x
  | .queue => s.queueCaption x
  | .agenda => s.agendaCaption x
  | .blank => .black

/-- A layout resolved from the state of a section. -/
def State.resolveLayout (s : State) (x : Sect) (l : Layout) : List ResolvedTile :=
  l.map fun t =>
    { c0 := t.c0, c1 := t.c1, r0 := t.r0, r1 := t.r1, shown := s.resolveContent x t }

/-- The resolved layout of a screen: that of its effective section's working settings for its own
number (R33, R143). -/
def State.resolved (s : State) (n : ScreenNo) : List ResolvedTile :=
  let x := (s.screen n).eff
  s.resolveLayout x (s.sect x).settings.layouts[n]

/-- A screen record takes a resolved layout: where it differs, it replaces the old and sets the dirty
flag (R143). -/
def putLayout (l : List ResolvedTile) (r : ScreenRec) : ScreenRec :=
  if r.layout = l then r else { r with layout := l, dirty := true }

/-- The router resolves every screen from the state as it stands (R143). -/
def State.resolveScreens (s : State) : State :=
  { s with screens := Vector.ofFn fun n => putLayout (s.resolved n) (s.screen n) }

/-! ### The update protocol (R144 to R148) -/

/-- A screen record as an update is sent: new version, in flight, dirty clear, timer at 250 ms, and
the UPDATE on the link (R144). -/
def sendUpdate (r : ScreenRec) : ScreenRec :=
  let v := nextScreenVersion r.version
  { r with version := some v, inFlight := some v, dirty := false, ackTimer := some 250,
           sent := some (v, r.layout) }

/-- A screen is owed an update and may be sent it: dirty, nothing in flight, not OFFLINE (R144). -/
def ScreenRec.due (r : ScreenRec) : Bool := r.dirty && r.inFlight.isNone && r.link ≠ .offline

/-- The updates that the end of an event sends (R144). -/
def State.sendUpdates (s : State) : State :=
  { s with screens := Vector.ofFn fun n =>
      if (s.screen n).due then sendUpdate (s.screen n) else s.screen n }

/-- The end of every event that changes what seats and screens show: the composer recomposes, the
router resolves and sends (R123, R143, R144; assumption 9). -/
def State.refresh (s : State) : State := s.recompose.resolveScreens.sendUpdates

/-- The effective section of every screen recomputed; a screen that changes hands is marked dirty
whether or not its resolved layout changes (R33, R143). -/
def State.reassignScreens (s : State) : State :=
  { s with screens := Vector.ofFn fun n =>
      let r := s.screen n
      let x := effSection s.mode r.assigned
      if r.eff = x then r else { r with eff := x, dirty := true } }

/-- A SCREEN notice to the MDP with the screen's present link state (R148). -/
def State.screenNotice (s : State) (n : ScreenNo) : State :=
  let r := s.screen n
  s.notify [.mdp] (s.notice (some r.eff) none (.screen n r.link r.version))

end Sys2Proof.Machine
end

