-- ==== Sys2Proof/Machine/Floor.lean ====
section
/-! DEFINITION. The floor controller's shared operations: FLOOR, QUEUE and TURN notices, grants and
closes, the slot arbiter, the queue and its advance, refusals, requests and open attempts, priority
(spec/03, spec/04, spec/05). What an event at the floor controller does as one whole is in
Sessions.lean, since it may end a session. -/

set_option autoImplicit false

namespace Sys2Proof.Machine

/-! ### Notices -/

/-- A FLOOR notice of a seat's change, after the change has been made (R83). -/
def State.floorNotice (s : State) (i : Seat) (c : FloorChange) (why : FloorReason) (before : Mic) :
    State :=
  let x := s.sectionOf i
  let r := s.seat i
  s.notify (s.chairPorts x ++ [.mdp])
    (s.notice (some x) (some i)
      (.floor c why before r.mic r.slot r.stamp (r.part.map fun p => p.role) (s.delegateCount x)))

/-- A TURN notice of a seat (R101). For a seat without a turn, an acting chair at its cap, R101 gives the held
flag no value: it is sent as 0, whether or not the section's clock is held (DESIGN CHOICE, assumption 34). -/
def State.turnNotice (s : State) (i : Seat) (e : TurnEvent) (added : Option Nat) : State :=
  let x := s.sectionOf i
  let r := s.seat i
  let d : NoticeDetail := match r.turn with
    | none => .turn e none none false false added r.cumul false
    | some t => .turn e (some t.budget) (some t.remaining) t.warned t.expired added r.cumul (s.turnHeld i)
  s.notify (s.chairPorts x) (s.notice (some x) (some i) d)

/-- A QUEUE notice of a section (R58). The queue length is the one after the change. -/
def State.queueNotice (s : State) (x : Sect) (seat : Option Seat) (c : QueueChange) (why : QueueReason)
    (cause : Option RefusalCause) (e : Option QEntry) (place : Option Nat) : State :=
  s.notify (s.chairPorts x)
    (s.notice (some x) seat
      (.queue c why cause (e.map fun q => q.cls) (e.map fun q => q.stamp) place
        (s.sect x).queue.length))

/-! ### Grants (R61 to R64, R87) -/

/-- The turn of a seat that has entered ACTIVE from CLOSED, PENDING or CLOSING: an acting delegate's
starts with the full budget, and is warned at once inside its warning time (R87). -/
def State.turnStarts (s : State) (i : Seat) : State :=
  if (s.seat i).isDelegate then
    let p := (s.sect (s.sectionOf i)).settings
    let t := startTurn (p.budget * 10) p.warn
    let s' := s.modSeat i fun r => { r with turn := some t }
    if t.warned then s'.turnNotice i .warning none else s'
  else s

/-- What follows a seat's entry into ACTIVE: the FLOOR notice, the turn, the presenter (R61, R62,
R101, R135). -/
def State.opened (s : State) (i : Seat) (why : FloorReason) (before : Mic) : State :=
  ((s.floorNotice i .opened why before).turnStarts i).followSpeaker i

/-- The seat takes the section's next admission stamp, and the counter advances (R64). -/
def State.takeStamp (s : State) (i : Seat) : State :=
  let x := s.sectionOf i
  let v := (s.sect x).stampCtr
  (s.modSeat i fun r => { r with stamp := some v }).modSect x fun q => { q with stampCtr := nextStamp v }

/-- A grant: an ordinary grant of a CLOSED mic (R62), a re-grant of a CLOSING one in its fading slot
(R63). A grant is never asked for in another state. A fade complete report that still waits at a re-grant is
withdrawn, so that it does not end a later fade of the seat (DESIGN CHOICE, assumption 33). -/
def State.grant (s : State) (i : Seat) (why : FloorReason) : State :=
  let x := s.sectionOf i
  match (s.seat i).mic with
  | .closed =>
    let s1 := s.takeStamp i
    match s.freeSlot x with
    | some k =>
      (s1.modSeat i fun r => { r with mic := .active, slot := some k, ramp := 0 }).opened i why .closed
    | none => (s1.modSeat i fun r => { r with mic := .pending }).floorNotice i .pending why .closed
  | .closing =>
    ((s.takeStamp i).modSeat i fun r => { r with mic := .active, fadeReport := none }).opened i why
      .closing
  | .pending => s
  | .active => s
  | .suspended => s

/-! ### Closes (R69, R70, R95) -/

/-- A close with its reason: PENDING goes to CLOSED, ACTIVE and SUSPENDED to CLOSING keeping slot and
ramp; stamp, opened-by-priority flag and turn are removed. A CLOSED or CLOSING mic is not changed. -/
def State.close (s : State) (i : Seat) (why : FloorReason) : State :=
  let before := (s.seat i).mic
  let shut (m : Mic) : State :=
    (s.modSeat i fun r => { r with mic := m, stamp := none, byPriority := false, turn := none }).floorNotice
      i .closed why before
  match before with
  | .pending => shut .closed
  | .active => shut .closing
  | .suspended => shut .closing
  | .closed => s
  | .closing => s

/-- A fade has ended: a seat still CLOSING becomes CLOSED with ramp level 0 and its slot freed (R70). -/
def endFade (r : SeatRec) : SeatRec :=
  match r.mic with
  | .closing => { r with mic := .closed, ramp := 0, slot := none, fadeReport := none }
  | .closed => r
  | .pending => r
  | .active => r
  | .suspended => r

/-- Close every seat of a list in its order. -/
def closeAll (why : FloorReason) (l : List Seat) (s : State) : State :=
  overSeats (fun i s => s.close i why) l s

/-! ### The slot arbiter (R67, R68) -/

/-- The first eligible PENDING seat: acting chairs, oldest stamp first, then, while priority is off,
acting delegates, oldest stamp first. -/
def State.nextPending (s : State) (x : Sect) : Option Seat :=
  match s.oldest (s.seatsWhere x fun r => r.mic = .pending && r.isChair) with
  | some i => some i
  | none =>
    if s.priorityOn x then none
    else s.oldest (s.seatsWhere x fun r => r.mic = .pending && r.isDelegate)

/-- A PENDING seat is given a slot and becomes ACTIVE with ramp level 0 (R68). -/
def State.serve (s : State) (i : Seat) (k : Nat) : State :=
  (s.modSeat i fun r => { r with mic := .active, slot := some k, ramp := 0 }).opened i .slot .pending

/-- The arbiter gives free slots, lowest first, while an eligible seat waits; a pool has eight. -/
def State.arbiter : Nat → Sect → State → State
  | 0, _, s => s
  | fuel + 1, x, s =>
    match s.freeSlot x, s.nextPending x with
    | some k, some i => State.arbiter fuel x (s.serve i k)
    | _, _ => s

/-! ### The queue (R47 to R50, R59) -/

/-- A section record with a seat's entry taken off its queue. -/
def dropEntry (i : Seat) (r : SectRec) : SectRec :=
  { r with queue := r.queue.filter fun e => e.seat ≠ i }

/-- A seat's entry leaves the queue with a reason, and QUEUE REMOVED is queued (R49). -/
def State.removeEntry (s : State) (x : Sect) (i : Seat) (why : QueueReason) : State :=
  match s.queueEntry x i with
  | none => s
  | some e =>
    (s.modSect x (dropEntry i)).queueNotice x (some i) .removed why none (some e)
      (placeIn i (s.sect x).queue)

/-- An entry joins the queue last with the request counter's stamp, and QUEUE ADDED is queued (R48). -/
def State.addEntry (s : State) (x : Sect) (i : Seat) : State :=
  let v := (s.sect x).reqCtr
  let e : QEntry := ⟨i, .normal, v⟩
  let s' := s.modSect x fun r => { r with queue := r.queue ++ [e], reqCtr := nextRequest v }
  s'.queueNotice x (some i) .added .request none (some e) (some (s'.sect x).queue.length)

/-- The whole queue is emptied, and a single QUEUE CLEARED is queued, whether or not it held an entry
(R59). -/
def State.clearQueue (s : State) (x : Sect) (why : QueueReason) : State :=
  (s.modSect x fun r => { r with queue := [] }).queueNotice x none .cleared why none none none

/-- A refusal: a denied indication for the seat and QUEUE NONE with the cause; nothing is removed
(R45). -/
def State.refuse (s : State) (x : Sect) (i : Seat) (cause : RefusalCause) : State :=
  (s.denial i).queueNotice x (some i) .none .refused (some cause) (s.queueEntry x i)
    (placeIn i (s.sect x).queue)

/-- The queue of a section may advance: OPEN or QUEUE mode, priority off, SESSION or ENDING (R50). -/
def State.mayAdvance (s : State) (x : Sect) : Bool :=
  let r := s.sect x
  r.settings.floorMode ≠ .chair && !s.priorityOn x && (r.state = .session || r.state = .ending)

/-- An advance: while the delegate count is below N, the head is granted, or removed with reason CAP
and shown DENIED where it has reached the cap (R50). Each step takes one entry. -/
def State.advance : Nat → Sect → State → State
  | 0, _, s => s
  | fuel + 1, x, s =>
    if s.mayAdvance x && s.delegateCount x < (s.sect x).settings.limit then
      match (s.sect x).queue with
      | [] => s
      | e :: _ =>
        if s.capReached x e.seat then
          State.advance fuel x ((s.removeEntry x e.seat .cap).denial e.seat)
        else State.advance fuel x ((s.removeEntry x e.seat .granted).grant e.seat .advance)
    else s

/-! ### Requests and open attempts (R42 to R46, R74) -/

/-- The override candidate: the ACTIVE acting delegate with the oldest stamp, when the override
setting is on (R44, R74). -/
def State.overrideSeat (s : State) (x : Sect) : Option Seat :=
  if (s.sect x).settings.override then s.oldest (s.seatsWhere x fun r => r.mic = .active && r.isDelegate)
  else none

/-- The seat's request is queued, or refused FULL at 24 entries (R42, R48). -/
def State.enqueue (s : State) (x : Sect) (i : Seat) : State :=
  if (s.sect x).queue.length < 24 then s.addEntry x i else s.refuse x i .full

/-- The delegate count is below the working limit N. -/
def State.belowLimit (s : State) (x : Sect) : Bool := s.delegateCount x < (s.sect x).settings.limit

/-- A request: the REQUEST press of an idle acting delegate in PRESS or TOGGLE mode (R42, R43). -/
def State.request (s : State) (x : Sect) (i : Seat) : State :=
  let r := s.sect x
  if r.state = .overrun then s.refuse x i .overrun
  else if s.capReached x i then s.refuse x i .cap
  else if s.priorityOn x then s.enqueue x i
  else match r.settings.floorMode with
    | .open_ =>
      if s.belowLimit x then s.grant i .request
      else match s.overrideSeat x with
        | some j => (s.close j .overridden).grant i .override
        | none => s.enqueue x i
    | .queue => if s.belowLimit x && r.queue.isEmpty then s.grant i .request else s.enqueue x i
    | .chair => s.enqueue x i

/-- An open attempt: the REQUEST press of an idle or queued acting delegate in PTT mode (R46). By override the
closed seat's FLOOR CLOSED comes first, then QUEUE REMOVED for the requester's entry, then the grant; R46 and R74
leave the place of the removal open (DESIGN CHOICE, assumption 32). -/
def State.openAttempt (s : State) (x : Sect) (i : Seat) : State :=
  let r := s.sect x
  if r.state = .overrun then s.refuse x i .overrun
  else if s.capReached x i then s.refuse x i .cap
  else if s.priorityOn x then s.refuse x i .priority
  else match r.settings.floorMode with
    | .chair => s.refuse x i .floor
    | .queue =>
      if r.queue.any fun e => e.seat ≠ i then s.refuse x i .floor
      else if s.belowLimit x then (s.removeEntry x i .granted).grant i .request
      else s.refuse x i .limit
    | .open_ =>
      if s.belowLimit x then (s.removeEntry x i .granted).grant i .request
      else match s.overrideSeat x with
        | some j => ((s.close j .overridden).removeEntry x i .granted).grant i .override
        | none => s.refuse x i .limit

/-! ### Priority (R75 to R79) -/

/-- A member of the priority holder set: an acting chair seat or the section's console. -/
inductive Holder where
  | chair (seat : Seat)
  | console
  deriving DecidableEq, Repr

/-- The member is in the section's holder set. -/
def SectRec.holds (r : SectRec) : Holder → Bool
  | .chair i => r.holders.contains i
  | .console => r.console

/-- The section record with a member added to its holder set. -/
def addHolder (h : Holder) (r : SectRec) : SectRec :=
  match h with
  | .chair i => { r with holders := insertSeat i r.holders }
  | .console => { r with console := true }

/-- The section record with a member removed from its holder set. -/
def dropHolder (h : Holder) (r : SectRec) : SectRec :=
  match h with
  | .chair i => { r with holders := r.holders.filter fun j => j ≠ i }
  | .console => { r with console := false }

/-- Priority comes on over an ACTIVE acting delegate: it becomes SUSPENDED, keeping slot, stamp and
turn (R77, R92). -/
def State.suspend (s : State) (i : Seat) : State :=
  (s.modSeat i fun r => { r with mic := .suspended }).floorNotice i .suspended .priority .active

/-- A SUSPENDED acting delegate returns to ACTIVE with its slot, stamp and turn (R79, R93). -/
def State.resume (s : State) (i : Seat) : State :=
  let act := (s.sect (s.sectionOf i)).settings.expiry
  (s.modSeat i fun r => { r with mic := .active, turn := r.turn.map (resumeTurn act) }).floorNotice i
    .resumed .priorityEnd .suspended

/-- Priority goes off in a section: MUTE resumes the suspended delegates, CANCEL closes them and the
pending ones, in ascending seat number (R79). -/
def State.endPriority (s : State) (x : Sect) : State :=
  match (s.sect x).settings.prioMode with
  | .mute =>
    overSeats (fun i s => s.resume i) (s.seatsWhere x fun r => r.isDelegate && r.mic = .suspended) s
  | .cancel =>
    closeAll .cancelled
      (s.seatsWhere x fun r => r.isDelegate && (r.mic = .suspended || r.mic = .pending)) s

/-- Priority comes on: every ACTIVE acting delegate is suspended, ascending (R77, step 1). -/
def State.startPriority (s : State) (x : Sect) : State :=
  overSeats (fun i s => s.suspend i) (s.seatsWhere x fun r => r.isDelegate && r.mic = .active) s

/-- The opening by priority of a joining chair's mic, with its flag set (R77, step 2). -/
def State.openByPriority (s : State) (i : Seat) : State :=
  match (s.seat i).mic with
  | .closed | .closing => (s.grant i .priority).modSeat i fun r => { r with byPriority := true }
  | .pending => s
  | .active => s
  | .suspended => s

/-- A member joins the priority holder set (R77); one that is in it changes nothing (R75). -/
def State.joinHolders (s : State) (x : Sect) (h : Holder) : State :=
  if (s.sect x).holds h then s
  else
    let s1 := s.modSect x (addHolder h)
    let s2 := if s.priorityOn x then s1 else s1.startPriority x
    match h with
    | .chair i => s2.openByPriority i
    | .console => s2

/-- A member leaves the priority holder set: a chair's mic opened by priority is closed (R78), and
where the set empties priority goes off (R79). One that is not in it changes nothing. -/
def State.leaveHolders (s : State) (x : Sect) (h : Holder) : State :=
  if (s.sect x).holds h then
    let s1 := s.modSect x (dropHolder h)
    let s2 := match h with
      | .chair i => if (s1.seat i).byPriority then s1.close i .priority else s1
      | .console => s1
    if s2.priorityOn x then s2 else s2.endPriority x
  else s

/-! ### Keys in an open section (R37 to R41) -/

/-- The REQUEST press of an acting delegate (R37, R38, R39). -/
def State.delegatePress (s : State) (x : Sect) (i : Seat) : State :=
  let queued := (s.queueEntry x i).isSome
  match (s.sect x).settings.keyMode, (s.seat i).mic with
  | .press, .closed | .press, .closing => if queued then s else s.request x i
  | .press, .pending | .press, .active => s.close i .key
  | .press, .suspended => s
  | .toggle, .closed | .toggle, .closing =>
    if queued then s.removeEntry x i .withdrawn else s.request x i
  | .toggle, .pending | .toggle, .active => s.close i .key
  | .toggle, .suspended => s
  | .ptt, .closed | .ptt, .closing => s.openAttempt x i
  | .ptt, .pending | .ptt, .active | .ptt, .suspended => s

/-- The REQUEST release of an acting delegate: in PTT mode it closes a pending, active or suspended
seat, otherwise it has no effect (R39). -/
def State.delegateRelease (s : State) (x : Sect) (i : Seat) : State :=
  match (s.sect x).settings.keyMode with
  | .ptt => s.close i .key
  | .press => s
  | .toggle => s

/-- The REQUEST press of an acting chair toggles its own mic and clears its opened-by-priority flag
(R40). -/
def State.chairPress (s : State) (i : Seat) : State :=
  let s1 := s.modSeat i fun r => { r with byPriority := false }
  match (s.seat i).mic with
  | .closed | .closing => s1.grant i .chairKey
  | .pending | .active => s1.close i .key
  | .suspended => s1

/-- A key event acted on in SESSION, ENDING or OVERRUN by the seat's acting role (R36). -/
def State.keyAction (s : State) (x : Sect) (i : Seat) (e : KeyEvent) : State :=
  if (s.seat i).isChair then
    match e with
    | .requestPress => s.chairPress i
    | .requestRelease => s
    | .priorityPress => s.joinHolders x (.chair i)
    | .priorityRelease => s.leaveHolders x (.chair i)
  else if (s.seat i).isDelegate then
    match e with
    | .requestPress => s.delegatePress x i
    | .requestRelease => s.delegateRelease x i
    | .priorityPress => s
    | .priorityRelease => s
  else s

/-! ### Seat loss (R80) -/

/-- The mic part of a lost seat: CLOSED at once, ramp level 0, no slot, stamp, flag or turn. -/
def lostMic (r : SeatRec) : SeatRec :=
  { r with mic := .closed, ramp := 0, slot := none, stamp := none, byPriority := false,
           fadeReport := none, turn := none }

/-- The floor controller acts on the seat-lost event, in the order of R80; the arbiter and the
advance follow at the end of the event. -/
def State.loseSeat (s : State) (x : Sect) (i : Seat) : State :=
  let before := (s.seat i).mic
  let s1 := s.modSeat i lostMic
  let s2 := if before.onFloor then s1.floorNotice i .closed .lost before else s1
  (s2.leaveHolders x (.chair i)).removeEntry x i .lost

end Sys2Proof.Machine
end

