-- ==== Sys2Proof/Machine/Sessions.lean ====
section
/-! DEFINITION. Sessions: SESSION and BOOKING notices, timers, check-in, session start and end, the
end minute, OVERRUN, and the event at the floor controller as one whole (spec/10, R36, R50, R61, R67,
R183). -/

set_option autoImplicit false

namespace Sys2Proof.Machine

/-! ### Notices (R170, R188) -/

/-- A SESSION notice of a section: previous state, reason, and the booking that runs or has ended; the
new state, profile number, mode and lead port are read after the change (R188). -/
def State.sessionNotice (s : State) (x : Sect) (before : SectState) (why : SessionReason)
    (source : Option CheckInSource) (seat : Option Seat) (b : Option Booking) : State :=
  s.notify (s.chairPorts x ++ [.scp, .mdp])
    (s.notice (some x) seat
      (.session before (s.sect x).state why source (b.map fun k => k.id) (b.map fun k => k.span)
        (match b with
          | some k => k.stop
          | none => none)
        (s.sect x).loaded s.mode s.lead))

/-- The section field of a BOOKING notice: the span's section, none for JOINED (R170). -/
def spanHeader : Option Span → Option Sect
  | some .a => some .a
  | some .b => some .b
  | some .joined => none
  | none => none

/-- A BOOKING notice of a booking after the change, to the given ports (R170). -/
def State.bookingNotice (s : State) (ports : List Port) (b : Booking) (c : BookingChange)
    (why : Option BookingReason) (ended : Option EndReason) (oldStop : Option Nat) : State :=
  s.notify ports
    (s.notice (spanHeader (some b.span)) none
      (.booking c (some b.id) (some b.span) b.start b.stop why ended oldStop))

/-! ### Timers (R175, R183) -/

/-- The idle timer starts afresh when the section is quiet in SESSION or ENDING (R183). -/
def State.startIdle (s : State) (x : Sect) : State :=
  if s.quiet x then s.modSect x fun r => { r with idle := Timer.start r.settings.idle } else s

/-- The idle timer is retriggered, if it runs or has just run out, in SESSION and ENDING (R183). -/
def State.retriggerIdle (s : State) (x : Sect) : State :=
  let r := s.sect x
  if (r.state = .session || r.state = .ending) && r.idle ≠ .stopped then
    s.modSect x fun r => { r with idle := Timer.start r.settings.idle }
  else s

/-- The idle timer at the end of an event at the floor controller: stopped where the section is not
quiet, started afresh where it has become quiet (R183). -/
def State.settleIdle (s : State) (x : Sect) (wasQuiet : Bool) : State :=
  let r := s.sect x
  if r.state = .session || r.state = .ending then
    if s.quiet x then (if wasQuiet then s else s.startIdle x)
    else s.modSect x fun r => { r with idle := .stopped }
  else s

/-! ### The ENDING test (R174, R179) -/

/-- m stands at or above e − w, with an end minute, w not 0 and table time set. -/
def State.endingDue (s : State) (x : Sect) : Bool :=
  let w := (s.sect x).settings.ending
  match s.endMinute x, s.minute with
  | some e, some m => w ≠ 0 && e ≤ m + w
  | _, _ => false

/-- A section enters SESSION, or ENDING where the test holds, from GRACE, FREE or OVERRUN (R174,
R176, R179): timers of the state it leaves stopped, SESSION notice, idle timer started. -/
def State.enterOpen (s : State) (x : Sect) (why : SessionReason) (source : Option CheckInSource)
    (seat : Option Seat) : State :=
  let before := (s.sect x).state
  let after : SectState := if s.endingDue x then .ending else .session
  let s1 := s.modSect x fun r => { r with state := after, grace := .stopped, idle := .stopped }
  (s1.sessionNotice x before why source seat (s1.runningBooking x)).startIdle x

/-- A change between SESSION and ENDING, with its SESSION notice (R179). -/
def State.switchEnding (s : State) (x : Sect) (after : SectState) (why : SessionReason) : State :=
  let before := (s.sect x).state
  let s1 := s.modSect x fun r => { r with state := after }
  s1.sessionNotice x before why none none (s1.runningBooking x)

/-- The test of R179 at a minute report: SESSION to ENDING. -/
def State.testWarning (s : State) (x : Sect) : State :=
  if (s.sect x).state = .session && s.endingDue x then s.switchEnding x .ending .warning else s

/-- The test of R179 at a change of end minute or of time: either way between SESSION and ENDING. -/
def State.testEnding (s : State) (x : Sect) (why : SessionReason) : State :=
  match (s.sect x).state with
  | .session => if s.endingDue x then s.switchEnding x .ending why else s
  | .ending => if s.endingDue x then s else s.switchEnding x .session why
  | .overrun => s
  | .grace => s
  | .free => s
  | .merged => s

/-- R179 at a change of the running booking's end minute: as above, and an OVERRUN section whose end
now lies at m + 1 or later leaves OVERRUN. -/
def State.endChanged (s : State) (x : Sect) : State :=
  match (s.sect x).state with
  | .overrun =>
    match s.endMinute x, s.minute with
    | some e, some m => if m < e then s.enterOpen x .endChanged none none else s
    | _, _ => s
  | .session => s.testEnding x .endChanged
  | .ending => s.testEnding x .endChanged
  | .grace => s
  | .free => s
  | .merged => s

/-- A check-in: the grace timer stops and the section enters SESSION or ENDING (R176). -/
def State.checkIn (s : State) (x : Sect) (source : CheckInSource) (seat : Option Seat) : State :=
  s.enterOpen x .checkIn (some source) seat

/-! ### Session end (R185) -/

/-- The SESSION notice reason of a session end. -/
def EndReason.session : EndReason → SessionReason
  | .noShow => .noShow
  | .end_ => .end_
  | .time => .time
  | .idle => .idle
  | .overrunDone => .overrunDone
  | .cleared => .cleared
  | .external => .external

/-- The floor of a section is closed at its session's end: every seat on the floor is closed with
reason ENDED, ascending, the holder set is emptied without a priority ending, and the queue is
cleared (R81). -/
def State.closeFloor (s : State) (x : Sect) : State :=
  let s1 := closeAll .ended (s.seatsWhere x fun r => r.mic.onFloor) s
  let s2 := s1.modSect x fun r => { r with holders := [], console := false }
  s2.clearQueue x .ended

/-- A section record with its free values: working settings of working profile 0, stamp and request
counters and clip counters kept (R35, R172, Table 3-3). -/
def freeRecord (st : SectState) (p0 : Profile) (r : SectRec) : SectRec :=
  { r with state := st, booking := none, settings := p0, chairs := [], holders := [], console := false,
           clockHold := false, queue := [], presenter := none, grace := .stopped, idle := .stopped,
           loaded := 0 }

/-- Every seat of a section loses its session part (R35). -/
def State.dropParts (s : State) (x : Sect) : State :=
  s.mapSeats fun i r => if s.sectionOf i = x then { r with part := none } else r

/-- A session ends, as one event, in the order of R185: floor, record, SESSION notice, booking (with
BOOKING REMOVED, but at CLEARTABLE, R168), and the ownership recomputed for the presenters (R134,
R136). -/
def State.endSession (s : State) (x : Sect) (why : EndReason) : State :=
  let b := s.runningBooking x
  let before := (s.sect x).state
  let s1 := s.closeFloor x
  let s2 := (s1.dropParts x).modSect x (freeRecord .free (s1.profiles[0]))
  let s3 := s2.sessionNotice x before why.session none none b
  let s4 := match b with
    | none => s3
    | some k =>
      let t := s3.dropBooking k.id
      if why = EndReason.cleared then t else t.bookingNotice [.scp] k .removed (some .ended) (some why) none
  s4.checkPresenters

/-! ### An event at the floor controller (R36, R50, R61, R67) -/

/-- The bound of OVERRUN on the last delegate: a section in OVERRUN with no acting delegate ACTIVE or
SUSPENDED ends with reason OVERRUN_DONE (R182). -/
def State.overrunBound (s : State) (x : Sect) : State :=
  if (s.sect x).state = .overrun && s.speakingDelegates x = 0 then s.endSession x .overrunDone else s

/-- An event at the floor controller in a section, as one whole: the event's own changes with any
priority ending, the slot arbiter, then one advance of the queue where the event lowers the delegate
count, empties the holder set, or is a FLOOR (`always`), and the report to the section controller
(R50, R61, R67, R83, R182, R183). -/
def State.floorEvent (s : State) (x : Sect) (always : Bool) (body : State → State) : State :=
  let s1 := State.arbiter 8 x (body s)
  let lowered := s1.delegateCount x < s.delegateCount x
  let ended := s.priorityOn x && !s1.priorityOn x
  let s2 := if always || lowered || ended then State.advance (s1.sect x).queue.length x s1 else s1
  (s2.settleIdle x (s.quiet x)).overrunBound x

/-- A key event taken from a READY seat (R18, R36): a PRIORITY event of a DELEGATE_UNIT goes no
further; a press in GRACE first checks the section in; elsewhere the idle timer is retriggered; then
the floor controller acts, and the composer and the router take its reports. -/
def State.keyEvent (s : State) (i : Seat) (e : KeyEvent) : State :=
  let x := s.sectionOf i
  let isPriority := e = .priorityPress || e = .priorityRelease
  let isPress := e = .requestPress || e = .priorityPress
  if isPriority && (s.seat i).kind = some .delegateUnit then s
  else match (s.sect x).state with
    | .free => s
    | .merged => s
    | .grace =>
      if isPress then
        ((s.checkIn x .key (some i)).floorEvent x false fun t => t.keyAction x i e).refresh
      else s
    | .session | .ending | .overrun =>
      ((s.retriggerIdle x).floorEvent x false fun t => t.keyAction x i e).refresh

/-! ### Session start (R30, R173, R174) -/

/-- The seats from which the acting chairs of a section are taken: its seats of class CHAIR, in
JOINED mode those of the lead half alone (R30). -/
def State.chairCandidates (s : State) (x : Sect) : List Seat :=
  s.seatsOf x |>.filter fun i =>
    (s.seat i).map.cls = .chair &&
      match s.mode with
      | .divided => true
      | .joined => s.halfOf i = s.lead

/-- The session part a seat receives from its role and the booking's roster (R173). -/
def sessionPart (chairs : List Seat) (roster : List RosterEntry) (i : Seat) : SessionPart :=
  let role : Role := if chairs.contains i then .chair else .delegate
  match roster.find? fun e => e.seat = i with
  | some e => ⟨role, some e.name, e.share⟩
  | none => ⟨role, none, none⟩

/-- Every seat of a section receives its session part, and its cumulative speaking seconds are set to
0 (R98, R173). -/
def State.giveParts (s : State) (x : Sect) (chairs : List Seat) (roster : List RosterEntry) : State :=
  s.mapSeats fun i r =>
    if s.sectionOf i = x then { r with part := some (sessionPart chairs roster i), cumul := 0 } else r

/-- A session starts on a booking, as one event, in the order of R173. The section has no presenter
then (R135), and its clock hold flag is clear (R94). -/
def State.startSession (s : State) (b : Booking) : State :=
  let x := spanSection b.span
  let chairs := (s.chairCandidates x).take 2
  let s1 := s.modSect x fun r =>
    { r with booking := some b.id, loaded := b.profile, settings := s.profiles[b.profile],
             chairs := chairs, clockHold := false, presenter := none, stampCtr := 1, reqCtr := 1 }
  let s2 := s1.giveParts x chairs b.roster
  let grace := (s2.sect x).settings.grace
  let s3 :=
    if b.origin = .scheduled ∧ grace.duration ≠ 0 then
      let before := (s2.sect x).state
      let t := s2.modSect x fun r => { r with state := .grace, grace := Timer.start grace, idle := .stopped }
      t.sessionNotice x before .start none none (some b)
    else s2.enterOpen x (if b.origin = .scheduled then .start else .walkIn) none none
  s3.checkPresenters

/-! ### The end minute and OVERRUN (R181, R182) -/

/-- A booking that shares a section with the given one starts at a minute. -/
def State.startsThen (s : State) (b : Booking) (e : Nat) : Bool :=
  s.bookings.any fun c => c.id ≠ b.id && c.state = .pending && spansShare c.span b.span && c.start = some e

/-- A section enters OVERRUN: idle timer stopped, SESSION notice, its PENDING delegates closed, its
queue emptied, in that order (R182, R82, R59). -/
def State.enterOverrun (s : State) (x : Sect) : State :=
  let before := (s.sect x).state
  let s1 := s.modSect x fun r => { r with state := .overrun, idle := .stopped }
  let s2 := s1.sessionNotice x before .overrun none none (s1.runningBooking x)
  let s3 := closeAll .overrun (s2.seatsWhere x fun r => r.isDelegate && r.mic = .pending) s2
  s3.clearQueue x .overrun

/-- End minute reached for a booking's section (R181). -/
def State.endMinuteReached (s : State) (b : Booking) : State :=
  let x := spanSection b.span
  match (s.sect x).state with
  | .grace => s.endSession x .time
  | .session | .ending =>
    if (s.sect x).settings.overrun ≠ 0 ∧ s.speakingDelegates x ≠ 0 ∧
        ¬ s.startsThen b (b.stop.getD 0) then
      s.enterOverrun x
    else s.endSession x .time
  | .overrun => s
  | .free => s
  | .merged => s

/-- A minute report of a section: the ending warning, and the limit of OVERRUN (R179, R182). -/
def State.minuteReport (s : State) (x : Sect) (m : Nat) : State :=
  match (s.sect x).state with
  | .session => s.testWarning x
  | .overrun =>
    match s.endMinute x with
    | some e => if e + (s.sect x).settings.overrun ≤ m then s.endSession x .overrunDone else s
    | none => s
  | .ending => s
  | .grace => s
  | .free => s
  | .merged => s

/-! ### Division changes (R25 to R27) -/

/-- The table is free: A FREE, B FREE or MERGED (3.3). -/
def State.tableFree (s : State) : Bool :=
  s.secA.state = .free && (s.secB.state = .free || s.secB.state = .merged)

/-- Section B enters or leaves MERGED with its record at the free values, and the SESSION notice of
reason MODE (R27). -/
def State.switchB (s : State) (st : SectState) : State :=
  let before := s.secB.state
  let s1 := s.modSect .b (freeRecord st (s.profiles[0]))
  s1.sessionNotice .b before .mode none none none

/-- A division change to a table mode and a split position: the fades in flight end, membership takes
effect, section B enters or leaves MERGED where the mode changes, and the screens' effective sections
are recomputed (R25, R27). The recomposition and the resolution follow at the end of the event. -/
def State.divisionChange (s : State) (m : Mode) (k : Nat) : State :=
  let s1 := s.mapSeats fun _ r => endFade r
  let modeChanges := s1.mode ≠ m
  let s2 := { s1 with mode := m, k := k }
  let s3 := if modeChanges then s2.switchB (match m with
      | .joined => .merged
      | .divided => .free) else s2
  s3.reassignScreens

/-- The division a booking needs, made before its session begins: the lead port is set from the lead
half when the span is JOINED, and the table mode is changed where it differs (R26, R29). -/
def State.prepareTable (s : State) (b : Booking) : State :=
  let s1 := if b.span = .joined then { s with lead := b.lead } else s
  if s1.mode = spanMode b.span then s1 else s1.divisionChange (spanMode b.span) s1.k

/-! ### Booking starts (R167) -/

/-- The reason for which the start of a booking ends the session of a section, where that session's booking shares a
section with it: an overrun is bounded with OVERRUN_DONE (R182). R167 says that it holds no section in GRACE, SESSION
or ENDING; after a SETTIME back it can, and that session ends with EXTERNAL (DESIGN CHOICE, assumption 42). -/
def State.heldAgainst (s : State) (b : Booking) (x : Sect) : Option EndReason :=
  match s.runningBooking x with
  | none => none
  | some k =>
    if spansShare k.span b.span then
      match (s.sect x).state with
      | .overrun => some .overrunDone
      | .grace => some .external
      | .session => some .external
      | .ending => some .external
      | .free => none
      | .merged => none
    else none

/-- The session of a section ends where a starting booking ends it. -/
def State.endHeld (s : State) (b : Booking) (x : Sect) : State :=
  match s.heldAgainst b x with
  | some why => s.endSession x why
  | none => s

/-- A PENDING booking starts: it becomes RUNNING, the sessions that hold a section of it end, and its session starts
after any division change (R167, R182, R26, R173). Where a JOINED booking ends two, section A's ends before section
B's; no rule orders them (DESIGN CHOICE, assumption 40). -/
def State.startBooking (s : State) (id : Nat) : State :=
  match s.booking id with
  | none => s
  | some b =>
    let b' := { b with state := .running }
    let s1 := s.modBooking id fun c => { c with state := .running }
    ((((s1.endHeld b' .a).endHeld b' .b).prepareTable b').startSession b')

end Sys2Proof.Machine
end

