-- ==== Sys2Proof/Machine/Calendar.lean ====
section
/-! DEFINITION. The room calendar: booking order, ids, conflicts, the bounding of open walk-ins, changes
of an end minute, the minute event, and a change of table time (spec/09_the_room_calendar.md). -/

set_option autoImplicit false

namespace Sys2Proof.Machine

/-- The highest minute count (R152). -/
def lastMinute : Nat := 4294967294

/-! ### Booking order and ids (R155) -/

/-- The place of a span among bookings with equal starts. -/
def spanRank : Span → Nat
  | .a => 0
  | .b => 1
  | .joined => 2

/-- A booking stands before another in booking order: ascending start minute, equal starts A before B
before JOINED, and a walk-in with no start before every booking that has one. -/
def bookingBefore (b c : Booking) : Bool :=
  match b.start, c.start with
  | none, none => spanRank b.span < spanRank c.span
  | none, some _ => true
  | some _, none => false
  | some x, some y => x < y || (x = y && spanRank b.span < spanRank c.span)

/-- A booking joins the list at its place in booking order. -/
def insertBooking (b : Booking) : List Booking → List Booking
  | [] => [b]
  | c :: rest => if bookingBefore b c then b :: c :: rest else c :: insertBooking b rest

/-- A list put in booking order. -/
def orderBookings (l : List Booking) : List Booking := l.foldl (fun acc b => insertBooking b acc) []

/-- The next number after an id, wrapping past 65534 to 1. -/
def idAfter (n : Nat) : Nat := if n ≥ 65534 then 1 else n + 1

/-- The first id after a number that is not in use; at most 64 are, so 65 steps find it. -/
def freeId (used : List Nat) : Nat → Nat → Nat
  | 0, n => n
  | fuel + 1, n => if used.contains (idAfter n) then freeId used fuel (idAfter n) else idAfter n

/-- The id that a new booking receives. -/
def State.newId (s : State) : Nat := freeId (s.bookings.map fun b => b.id) 65 s.lastId

/-- A booking joins the calendar, and its id becomes the last assigned id. -/
def State.addBooking (s : State) (b : Booking) : State :=
  { s with bookings := insertBooking b s.bookings, lastId := b.id }

/-! ### Conflicts (R156) -/

/-- An interval with this start begins before an interval with this end ends: an absent start reaches
back without beginning, an absent end runs on without end. -/
def beginsBefore (start stop : Option Nat) : Bool :=
  match start, stop with
  | some t, some e => t < e
  | none, _ => true
  | _, none => true

/-- Two intervals intersect when each begins before the other ends. -/
def intersects (start stop start' stop' : Option Nat) : Bool :=
  beginsBefore start stop' && beginsBefore start' stop

/-- The bookings, but for the one with an id of its own, that conflict with a span and an interval, in
booking order. -/
def State.conflicting (s : State) (own : Option Nat) (span : Span) (start stop : Option Nat) :
    List Booking :=
  s.bookings.filter fun b =>
    some b.id ≠ own && spansShare b.span span && intersects start stop b.start b.stop

/-- A RUNNING walk-in with no end minute (R160). -/
def openWalkIn (b : Booking) : Bool := b.state = .running && b.origin = .walkIn && b.stop.isNone

/-- Every conflict of a new or moved booking is with an open walk-in that its start may bound: the
start is at or beyond now + G (R160). -/
def State.resolvable (s : State) (now start : Nat) (l : List Booking) : Bool :=
  l.all fun b => openWalkIn b && now + s.guardG ≤ start

/-! ### Changes of an end minute (R160, R162, R166, R179) -/

/-- A RUNNING booking takes a new end minute: BOOKING END_CHANGED to the SCP and the chair ports of the
section that runs it, then the test of R179. -/
def State.setEnd (s : State) (id : Nat) (e : Nat) (why : BookingReason) : State :=
  match s.booking id with
  | none => s
  | some b =>
    let x := spanSection b.span
    let b' := { b with stop := some e }
    let s1 := s.modBooking id fun c => { c with stop := some e }
    (s1.bookingNotice (.scp :: s1.chairPorts x) b' .endChanged (some why) none b.stop).endChanged x

/-- The open walk-ins of a list take a start as their end minute (R160). Of two that one JOINED booking bounds, the
first in booking order is bounded first; R160 does not order them (DESIGN CHOICE, assumption 38). -/
def State.boundAll (s : State) (l : List Booking) (start : Nat) : State :=
  l.foldl (fun s b => s.setEnd b.id start .bounded) s

/-- The end minute of a booking that is still RUNNING is reached. -/
def State.reachEnd (s : State) (id : Nat) : State :=
  match s.booking id with
  | none => s
  | some b => if b.state = .running then s.endMinuteReached b else s

/-- A booking made or moved to start at now starts at once: a walk-in bounded to end at now reaches its
end minute first (R160, R161, R162, R167). -/
def State.startAtNow (s : State) (now start id : Nat) (bounded : List Booking) : State :=
  if start = now then (bounded.foldl (fun s b => s.reachEnd b.id) s).startBooking id else s

/-! ### The minute event (R167) -/

/-- The ids of the RUNNING bookings whose end minute is m, in booking order. -/
def State.endingAt (s : State) (m : Nat) : List Nat :=
  (s.bookings.filter fun b => b.state = .running && b.stop = some m).map fun b => b.id

/-- The ids of the PENDING bookings whose start is at or below m, in booking order. -/
def State.dueAt (s : State) (m : Nat) : List Nat :=
  (s.bookings.filter fun b => b.state = .pending && b.start.getD 0 ≤ m).map fun b => b.id

/-- The PENDING bookings due at m start, in booking order. -/
def State.startDue (s : State) (m : Nat) : State := (s.dueAt m).foldl (fun s id => s.startBooking id) s

/-- The minute event at the new minute m (R167): the minute for every running section, the ends, the starts. The
minute is reported to section A, then to B; the rule does not order the two (DESIGN CHOICE, assumption 39). -/
def State.minuteEvent (s : State) (m : Nat) : State :=
  let s1 := (s.minuteReport .a m).minuteReport .b m
  let s2 := (s1.endingAt m).foldl (fun s id => s.reachEnd id) s1
  s2.startDue m

/-! ### A change of time (R153, R154) -/

/-- Table time in seconds. -/
def totalSeconds (minute second : Nat) : Int := minute * 60 + second

/-- The size of a change of time exceeds 300 seconds. -/
def tooFar (m sec m' sec' : Nat) : Bool := (totalSeconds m' sec' - totalSeconds m sec).natAbs > 300

/-- Some section runs a session. -/
def State.anyRunning (s : State) : Bool := s.secA.state.running || s.secB.state.running

/-- Step 1: walk-ins without a start take m as their start minute. -/
def State.giveStarts (s : State) (m : Nat) : State :=
  { s with bookings := orderBookings (s.bookings.map fun b =>
      if b.state = .running && b.origin = .walkIn && b.start.isNone then { b with start := some m }
      else b) }

/-- Step 2: RUNNING bookings whose end minute is at or below m end with reason EXTERNAL, in booking order (DESIGN
CHOICE, assumption 37). A booking's end is that of the session that runs on it. -/
def State.endPast (s : State) (m : Nat) : State :=
  (s.bookings.filter fun b => b.state = .running && (match b.stop with
    | some e => e ≤ m
    | none => false)).foldl (fun s b =>
      if (s.sect (spanSection b.span)).booking = some b.id then s.endSession (spanSection b.span) .external else s) s

/-- Step 3: PENDING bookings whose end minute is at or below m are removed with reason EXPIRED, in booking order
(DESIGN CHOICE, assumption 37). -/
def State.expirePast (s : State) (m : Nat) : State :=
  (s.bookings.filter fun b => b.state = .pending && (match b.stop with
    | some e => e ≤ m
    | none => false)).foldl
      (fun s b => (s.dropBooking b.id).bookingNotice [.scp] b .removed (some .expired) none none) s

/-- SETTIME taken: the minute and the second, then the five steps of R154. In step 5 section A is told before B
(DESIGN CHOICE, assumptions 37 and 39). -/
def State.setTime (s : State) (m sec : Nat) : State :=
  let unset := s.minute.isNone
  let s1 := { s with minute := some m, second := sec }
  let s2 := if unset then s1.giveStarts m else s1
  let s3 := ((s2.endPast m).expirePast m).startDue m
  (s3.testEnding .a .timeSet).testEnding .b .timeSet

/-! ### Walk-ins (R165) -/

/-- The bookings that bear on a walk-in of length r: those that share a section with its span and start
before now + r, or at any minute when r is 0. -/
def State.bearing (s : State) (span : Span) (now r : Nat) : List Booking :=
  s.bookings.filter fun b => spansShare b.span span && (r = 0 || b.start.getD 0 < now + r)

/-- The earliest start of a list of bookings; none for an empty list. -/
def earliestStart (l : List Booking) : Option Nat := (l.map fun b => b.start.getD 0).min?

/-- The end minute of a walk-in: now + r, or the earliest start that bears on it if that comes sooner;
none when it is open and none bears on it. -/
def walkInEnd (now r : Nat) (l : List Booking) : Option Nat :=
  match earliestStart l with
  | none => if r = 0 then none else some (now + r)
  | some t => if r = 0 then some t else some (min t (now + r))

/-- The start and end minute of a walk-in, or the code that refuses it (R165). -/
def State.walkInInterval (s : State) (span : Span) (r : Nat) : Except ReplyCode (Option Nat × Option Nat) :=
  if r ≠ 0 ∧ (r < 5 ∨ 1440 < r) then .error .range
  else match s.minute with
    | none => if s.bookings.length ≥ 64 then .error .full else .ok (none, none)
    | some now =>
      let l := s.bearing span now r
      let stop := walkInEnd now r l
      if l.any fun b => b.start.getD 0 < now + s.guardG then .error .conflict
      else if stop.getD 0 > lastMinute then .error .range
      else if s.bookings.length ≥ 64 then .error .full
      else .ok (some now, stop)

/-- The latest end that a RUNNING booking may be extended to: the next conflicting start after its end
(R156, R166). -/
def State.latestEnd (s : State) (b : Booking) (e : Nat) : Option Nat :=
  earliestStart (s.bookings.filter fun c =>
    c.id ≠ b.id && spansShare c.span b.span && e ≤ c.start.getD 0)

end Sys2Proof.Machine
end

