-- ==== Sys2Proof/Machine/Ports.lean ====
section
/-! DEFINITION. The port block and the settings store: what a transaction shifts out, how a request is
accepted, checked and answered, what a FETCH consumes, and when a write of the store begins
(spec/11_control_ports_and_stored_settings.md). -/

set_option autoImplicit false

namespace Sys2Proof.Machine

/-- All four ports. -/
def allPorts : List Port := [.cpa, .cpb, .scp, .mdp]

/-- The two chair ports. -/
def chairs : List Port := [.cpa, .cpb]

/-- What the block that owns a command answers: a reply code and payload at once, or, for a store
command that is taken, a reply that comes at store completion (R191, R198). -/
inductive Answer where
  | now (code : ReplyCode) (payload : List Byte)
  | held
  deriving DecidableEq, Repr

/-- A taken request: the state after it, and its answer. -/
abbrev Taken := State × Answer

/-- A refusal with no payload: it changes nothing. -/
def State.refused (s : State) (code : ReplyCode) : Taken := (s, .now code [])

/-- A request answered OK. -/
def State.ok (s : State) (payload : List Byte) : Taken := (s, .now .ok payload)

/-! ### Transactions (R189, R190) -/

/-- The status byte is shifted out whole, with the given bytes after it, and the sticky flags it showed
are cleared. -/
def State.shiftOut (s : State) (p : Port) (rest : List Byte) : State :=
  s.modPort p fun r => clearSticky { r with out := statusByte s.starting r :: rest }

/-- The FRAMING flag is set: the transaction is discarded (R189). -/
def State.markFraming (s : State) (p : Port) : State := s.modPort p fun r => { r with framing := true }

/-- A request is accepted: an unfetched reply is dropped with REPLY_LOST, and REQ_BUSY is set (R191). -/
def acceptRequest (r : PortRec) : PortRec :=
  { r with replyLost := r.replyLost || r.reply.isSome, reply := none, busy := true }

/-- The reply is placed in the slot, and REQ_BUSY clears (R191). -/
def State.placeReply (s : State) (p : Port) (code : Byte) (rc : ReplyCode) (payload : List Byte) : State :=
  s.modPort p fun r => { r with busy := false, reply := some ⟨code, rc, payload⟩ }

/-- The checks of taking, in the order of R191, then the block that owns the command. -/
def State.take (s : State) (p : Port) (allowed : List Port) (lenOk : Bool) (body : State → Taken) : Taken :=
  if s.starting then s.refused .starting
  else if !allowed.contains p then s.refused .notPermitted
  else if !lenOk then s.refused .length
  else body s

/-- The answer of a taken request goes to its port. -/
def answerTo (p : Port) (code : Byte) (t : Taken) : State :=
  match t.2 with
  | .now rc payload => t.1.placeReply p code rc payload
  | .held => t.1

/-- A request transaction: the status byte, then 00h for the length byte and each payload byte; a
payload above 250 bytes is discarded with FRAMING (R189), one that finds REQ_BUSY set with REQ_OVERRUN
(R191); any other is accepted, checked and answered. -/
def State.transact (s : State) (p : Port) (code : Byte) (payload : List Byte) (allowed : List Port)
    (lenOk : Bool) (body : State → Taken) : State :=
  let s1 := s.shiftOut p (List.replicate (payload.length + 1) 0)
  if payload.length > 250 then s1.markFraming p
  else if (s1.port p).busy then s1.modPort p fun r => { r with overrun := true }
  else answerTo p code ((s1.modPort p acceptRequest).take p allowed lenOk body)

/-- A chair command from a chair port: refused NOT_LEAD before any other check where the port commands
no section; otherwise the section's idle timer is retriggered, and the command is taken for that
section (R32, R183). -/
def State.asChair (s : State) (p : Port) (body : Sect → State → Taken) : Taken :=
  match s.commanded p with
  | none => s.refused .notLead
  | some x => body x (s.retriggerIdle x)

/-! ### FETCH (R192) -/

/-- The message that a FETCH chooses: the reply, otherwise the oldest notice, otherwise none. -/
def chosenMessage (r : PortRec) : Option (List Byte) :=
  match r.reply, r.notices with
  | some rep, _ => some rep.bytes
  | none, n :: _ => some n.bytes
  | none, [] => none

/-- The message a FETCH chose is consumed. -/
def consume (r : PortRec) : PortRec :=
  match r.reply with
  | some _ => { r with reply := none }
  | none => { r with notices := r.notices.tail }

/-- What a FETCH shifts out in `n` whole bytes after the status byte: the length byte, the message it chose, then
00h; with no message 00h alone (R192). No rule gives the bytes after the last of a message: they are sent as 00h
(DESIGN CHOICE, assumption 43). -/
def fetchBytes (r : PortRec) (n : Nat) : List Byte :=
  match chosenMessage r with
  | none => List.replicate n 0
  | some m => (enc8 m.length ++ m ++ List.replicate n 0).take n

/-- A FETCH transaction that clocks out `n` whole bytes after the status byte. The message is consumed when its
last byte is out. -/
def State.fetch (s : State) (p : Port) (n : Nat) : State :=
  let s1 := s.shiftOut p (fetchBytes (s.port p) n)
  match chosenMessage (s.port p) with
  | none => s1
  | some m => if m.length < n then s1.modPort p consume else s1

/-- A discarded transaction has shifted out what its kind shifts out in the bytes clocked whole, and consumes
nothing; cut within its command byte it has shown no byte whole, and clears no flag (R189, R190). -/
def State.shiftDiscarded (s : State) (p : Port) (bytes : List Byte) : State :=
  match bytes with
  | [] => s.modPort p fun r => { r with out := [] }
  | code :: rest =>
    s.shiftOut p (if code.toNat = 1 then fetchBytes (s.port p) rest.length else List.replicate rest.length 0)

/-! ### The settings store (R196, R198) -/

/-- A write of the table settings item begins, or the item is marked pending while another write is in
progress. -/
def State.writeTable (s : State) : State :=
  if s.write.isNone then { s with write := some (.table s.tableSettings) }
  else { s with tablePending := true }

/-- The image of a completed write replaces its item whole. -/
def WriteJob.store (j : WriteJob) (d : Stored) : Stored :=
  match j with
  | .map image => { d with map := some image }
  | .profile n image => { d with profiles := d.profiles.set n (some image) }
  | .table image => { d with table := some image }

/-- The reply that a completed write owes the MDP: STOREMAP's, STOREPROF's with its number, none for a
write of the table settings item. -/
def State.completionReply (s : State) : WriteJob → State
  | .map _ => s.placeReply .mdp 0x68 .ok []
  | .profile n _ => s.placeReply .mdp 0x67 .ok (enc8 n.val)
  | .table _ => s

/-- Where the table settings item is marked pending, its write begins as the write before it completes. -/
def State.nextWrite (s : State) : State :=
  if s.tablePending then
    { s with write := some (.table s.tableSettings), tablePending := false }
  else { s with write := none }

/-- The write in progress completes. -/
def State.completeWrite (s : State) (j : WriteJob) : State :=
  ({ s with stored := j.store s.stored }.completionReply j).nextWrite

end Sys2Proof.Machine
end

