-- ==== Sys2Proof/Machine/Visits.lean ====
section
/-! DEFINITION. The seat ring controllers: the visit cycle, bring-up, missed visits, loss, delivery and
key events (spec/01_the_seat_ring.md). -/

set_option autoImplicit false

namespace Sys2Proof.Machine

/-! ### SEAT notices (R13) -/

/-- A SEAT notice of a seat, to the given ports. -/
def State.seatNotice (s : State) (i : Seat) (ports : List Port) (d : NoticeDetail) : State :=
  s.notify ports (s.notice (some (s.sectionOf i)) (some i) d)

/-- The ports of a SEAT LOST notice: the MDP, and the chair ports of a running section where the seat's
session part holds an occupant name. -/
def State.lostPorts (s : State) (i : Seat) : List Port :=
  let x := s.sectionOf i
  let named := match (s.seat i).part with
    | some p => p.name.isSome
    | none => false
  if (s.sect x).state.running && named then .mdp :: s.chairPorts x else [.mdp]

/-! ### The down-going message (R2, R15, R20) -/

/-- The power command of a presence state is ON (Table 2-1). -/
def Presence.powerOn : Presence → Bool
  | .powering | .identifying | .configuring | .ready => true
  | .absent | .detected | .fault => false

/-- The feed block of the cycle before, 960 samples; 0 where there is none. -/
def feedBlock (r : SeatRec) : List Int := r.feedLast ++ List.replicate (960 - r.feedLast.length) 0

/-- The content of a down-going message by presence state (Table 2-1): a record is carried while its
version differs from the acknowledged one. -/
def downContent (i : Seat) (r : SeatRec) : DownContent :=
  match r.presence with
  | .absent | .detected | .fault => .poll
  | .powering => .powerQuery
  | .identifying => .identify
  | .configuring => .configure i 0
  | .ready =>
    .ready r.expectSeq (feedBlock r)
      (if r.ackRing = some r.ringVer then none else some (r.ring, r.ringVer))
      (if r.ackPlate = some r.plateVer then none else some (r.plate, r.plateVer))

/-- The controller of a ring opens its next visit and sends the down-going message. -/
def State.openVisit (s : State) (d : Side) : State :=
  let c := s.ring d
  let i := seatAt d c.next
  let r := s.seat i
  s.setRing d
    { next := c.next + 1, visit := some c.next,
      down := some { position := c.next.val, powerOn := r.presence.powerOn, content := downContent i r } }

/-- The open visit of a ring is over: answered, or closed without an answer. -/
def State.closeVisit (s : State) (d : Side) : State :=
  s.setRing d { s.ring d with visit := none }

/-- The seat whose visit a ring has open. -/
def State.visited (s : State) (d : Side) : Option Seat := (s.ring d).visit.map (seatAt d)

/-! ### Changes of presence (R4 to R11) -/

/-- A change of presence state sets the miss count to 0. -/
def enter (into : Presence) (bring : Nat) (r : SeatRec) : SeatRec :=
  { r with presence := into, bringUp := bring, miss := 0 }

/-- A seat enters FAULT with a step and a reason, its unit kind kept (R9). -/
def State.enterFault (s : State) (i : Seat) (step : Nat) (why : FaultReason) : State :=
  (s.modSeat i fun r => { enter .fault 0 r with fault := some ⟨step, why⟩ }).seatNotice i [.mdp]
    (.seatFault step why)

/-- The presence, delivery and audio parts of a seat that leaves READY. -/
def leftReady (into : Presence) (bring : Nat) (r : SeatRec) : SeatRec :=
  { enter into bring r with kind := none, ackRing := none, ackPlate := none, micNow := [], micNext := [] }

/-- A READY seat leaves READY with a cause: SEAT LOST is queued, the floor controller acts on the
seat-lost event, and the router on the presenters (R10, R11, R12, R80, R136). The router takes the ACTIVE reports
of the floor event (arbiter, advance) before it removes the lost presenter (DESIGN CHOICE, assumption 35). -/
def State.leaveReady (s : State) (i : Seat) (into : Presence) (bring : Nat) (why : LostCause) : State :=
  let x := s.sectionOf i
  let s1 := (s.modSeat i (leftReady into bring)).seatNotice i (s.lostPorts i) (.seatLost why)
  ((s1.floorEvent x false fun t => t.loseSeat x i).checkPresenters).refresh

/-- A FAULT seat has gone from the ring (R9). -/
def State.leaveFault (s : State) (i : Seat) : State :=
  (s.modSeat i fun r => { enter .absent 0 r with fault := none, kind := none }).seatNotice i [.mdp]
    .seatAbsent

/-! ### Missed visits (R4, R5, R6) -/

/-- The number of the bring-up step of a presence state (Table 2-2); 0 for the states that are none. -/
def Presence.step : Presence → Nat
  | .detected => 1
  | .powering => 2
  | .identifying => 3
  | .configuring => 4
  | .absent | .ready | .fault => 0

/-- The bring-up count after a missed visit: cleared in DETECTED, raised in POWERING. -/
def missedBringUp (r : SeatRec) : Nat :=
  match r.presence with
  | .detected => 0
  | .powering => r.bringUp + 1
  | .absent | .identifying | .configuring | .ready | .fault => r.bringUp

/-- A missed visit that leaves the seat in its state. -/
def missOnce (r : SeatRec) : SeatRec := { r with miss := r.miss + 1, bringUp := missedBringUp r }

/-- The miss count reaches 3: FAULT with reason LOST, ABSENT by loss, or ABSENT from FAULT (R4). -/
def State.missLimit (s : State) (i : Seat) : State :=
  match (s.seat i).presence with
  | .absent => s
  | .detected => s.enterFault i 1 .lost
  | .powering => s.enterFault i 2 .lost
  | .identifying => s.enterFault i 3 .lost
  | .configuring => s.enterFault i 4 .lost
  | .ready => s.leaveReady i .absent 0 .missed
  | .fault => s.leaveFault i

/-- A missed visit, or an answer that counts as one (R4 to R9). The timeout of POWERING goes before the
third miss (R6). -/
def State.missVisit (s : State) (i : Seat) : State :=
  let r := s.seat i
  if r.presence = .absent then s
  else if r.presence = .powering ∧ 100 ≤ r.bringUp + 1 then s.enterFault i 2 .timeout
  else if 3 ≤ r.miss + 1 then s.missLimit i
  else s.modSeat i missOnce

/-! ### Answers (R5 to R8, R11, R16 to R19) -/

/-- An answer in DETECTED: the eighth in a row leads to POWERING. -/
def State.answerDetected (s : State) (i : Seat) : State :=
  s.modSeat i fun r =>
    if 8 ≤ r.bringUp + 1 then enter .powering 0 r else { r with bringUp := r.bringUp + 1, miss := 0 }

/-- An answer in POWERING: GOOD leads to IDENTIFYING, NOT_GOOD counts toward the timeout. -/
def State.answerPowering (s : State) (i : Seat) (good : Bool) : State :=
  if good then s.modSeat i (enter .identifying 0)
  else if 100 ≤ (s.seat i).bringUp + 1 then s.enterFault i 2 .timeout
  else s.modSeat i fun r => { r with bringUp := r.bringUp + 1, miss := 0 }

/-- The unit kind that a code names. -/
def unitKindOf? : Nat → Option UnitKind
  | 0 => some .delegateUnit
  | 1 => some .chairUnit
  | _ => none

/-- A unit kind is stored and the seat goes to CONFIGURING; MISMATCH where a DELEGATE_UNIT stands at a
CHAIR-class seat (R7). -/
def State.identified (s : State) (i : Seat) (k : UnitKind) : State :=
  let s1 := s.modSeat i fun r => { enter .configuring 0 r with kind := some k }
  if k = .delegateUnit ∧ (s.seat i).map.cls = .chair then s1.seatNotice i [.mdp] (.seatMismatch k)
  else s1

/-- A seat enters READY (R8, R131). -/
def State.becomeReady (s : State) (i : Seat) : State :=
  ((s.modSeat i fun r =>
    { enter .ready 0 r with expectSeq := 0, ackRing := none, ackPlate := none }).seatNotice i [.mdp]
      (.seatReady (s.seat i).kind)).refresh

/-- How far the number of an event lies behind the expected event sequence, modulo 256. -/
def seqBehind (expect seq : Nat) : Nat := (expect + 256 - seq) % 256

/-- The event has already been taken: its number lies 1 to 128 behind the expected one (R17). -/
def alreadyTaken (expect seq : Nat) : Bool := 1 ≤ seqBehind expect seq && seqBehind expect seq ≤ 128

/-- One key event of a READY answer, with its sequence number (R17). -/
def State.takeEvent (s : State) (i : Seat) (seq : Nat) (e : KeyEvent) : State :=
  if alreadyTaken (s.seat i).expectSeq seq then s
  else (s.modSeat i fun r => { r with expectSeq := (seq + 1) % 256 }).keyEvent i e

/-- The key events of a READY answer, in their order. -/
def State.takeEvents (s : State) (i : Seat) : Nat → List KeyEvent → State
  | _, [] => s
  | seq, e :: rest => (s.takeEvent i (seq % 256) e).takeEvents i (seq + 1) rest

/-- READY content: acknowledgements, key events and the microphone block (R16 to R19). -/
def State.answerReady (s : State) (i : Seat) (firstSeq : Nat) (events : List KeyEvent)
    (ackRing ackPlate : Option Nat) (mic : List Int) : State :=
  (s.modSeat i fun r =>
    { r with miss := 0, ackRing := ackRing, ackPlate := ackPlate, micNext := mic }).takeEvents i firstSeq
      events

/-- A well-formed answer of the open visit, acted on by the seat's presence state. -/
def State.answered (s : State) (i : Seat) (m : UpMsg) : State :=
  match (s.seat i).presence with
  | .absent => s.modSeat i (enter .detected 1)
  | .detected => s.answerDetected i
  | .powering => s.answerPowering i m.powerGood
  | .identifying =>
    match m.content with
    | .unitKind code =>
      match unitKindOf? code with
      | some k => s.identified i k
      | none => s.missVisit i
    | .bare => s.missVisit i
    | .configAck => s.missVisit i
    | .ready .. => s.missVisit i
  | .configuring =>
    match m.content with
    | .configAck => if m.configured then s.becomeReady i else s.missVisit i
    | .bare => s.missVisit i
    | .unitKind _ => s.missVisit i
    | .ready .. => s.missVisit i
  | .ready =>
    if m.configured then
      match m.content with
      | .ready firstSeq events ackRing ackPlate mic =>
        s.answerReady i firstSeq events ackRing ackPlate mic
      | .bare => s.missVisit i
      | .unitKind _ => s.missVisit i
      | .configAck => s.missVisit i
    else s.leaveReady i .detected 1 .restart
  | .fault => s.modSeat i fun r => { r with miss := 0 }

/-- The message is well formed for a visit of a position (R3). -/
def fitsVisit (m : UpMsg) (p : Fin 24) : Bool := m.checkOk && m.lengthOk && m.position = p.val

end Sys2Proof.Machine
end

