-- ==== Sys2Proof/Machine/Mix.lean ====
section
/-! DEFINITION. The mix engine: scaling, the section bus, seat feeds, room outputs, ramps and clip
counters (spec/06_the_audio_mix.md). All values are exact integers (R105). -/

set_option autoImplicit false

namespace Sys2Proof.Machine

/-! ### Scaling, rounding and saturation (R105) -/

/-- Round-scale of v by a Q14 gain g: floor((v × g + 8192) / 16384). -/
def roundScale (v : Int) (g : Nat) : Int := (v * g + 8192) / 16384

/-- Saturate to the range of a 24-bit signed sample. -/
def saturate (v : Int) : Int := if v < -8388608 then -8388608 else if 8388607 < v then 8388607 else v

/-- The direction in which a value clips; none where saturate leaves it (R105, R116). -/
def clipDir? (v : Int) : Option ClipDir :=
  if v < -8388608 then some .negative else if 8388607 < v then some .positive else none

/-- The bus gain A[NOM] (Table 7-1). -/
def busGain : Nat → Nat
  | 0 => 0
  | 1 => 16384
  | 2 => 11585
  | 3 => 9459
  | 4 => 8192
  | 5 => 7327
  | 6 => 6689
  | 7 => 6193
  | _ => 5793

/-! ### Contributions and the bus (R104, R106 to R108) -/

/-- The sample a seat supplies to the frame at a place of the cycle: 0 where it is not READY or its
block is missing (R19, R104). -/
def sampleOf (place : Nat) (r : SeatRec) : Int := if r.presence = .ready then r.micNow.getD place 0 else 0

/-- The ramped contribution of a sample: trimmed to p, then floor((p × L + 16) / 32) (R106, R107). -/
def contribution (x : Int) (trim ramp : Nat) : Int := (roundScale x trim * ramp + 16) / 32

/-- The seats of a section's mixed set, each with its contribution q to this frame. -/
def State.contributions (s : State) (x : Sect) : List (Seat × Int) :=
  (s.mixedSet x).map fun i =>
    let r := s.seat i
    (i, contribution (sampleOf s.place r) r.map.trim r.ramp)

/-- The value u of a section's bus before saturate (R108). -/
def busValue (gain : Nat) (qs : List (Seat × Int)) : Int := roundScale (qs.map fun q => q.2).sum gain

/-! ### Seat feeds (R109, R110) -/

/-- The distance of two seats in positions, one more across the table. -/
def distance (i j : Seat) : Nat :=
  let d := ((seatPos i : Int) - seatPos j).natAbs
  if seatSide i = seatSide j then d else d + 1

/-- The neighbour factor for a distance: D4 at 4 and more. -/
def neighbourFactor (p : Profile) (d : Nat) : Nat :=
  if d ≤ 1 then p.d1 else if d = 2 then p.d2 else if d = 3 then p.d3 else p.d4

/-- The value w of a listening seat's feed before saturate. -/
def feedValue (p : Profile) (gain : Nat) (qs : List (Seat × Int)) (j : Seat) : Int :=
  let t := (qs.map fun q => roundScale q.2 (neighbourFactor p (distance q.1 j))).sum
  roundScale (roundScale t gain) p.volume

/-- A seat is given a feed other than 0: it is READY and its mic is CLOSED. -/
def SeatRec.listens (r : SeatRec) : Bool := r.presence = .ready && r.mic = .closed

/-- One section's part of a frame: its bus before saturate, and the seats that listen, ascending, each
with its feed before saturate. -/
structure SectFrame where
  u : Int
  feeds : List (Seat × Int)
  deriving DecidableEq, Repr

/-- A section computed for one frame from the state as it stands. -/
def State.sectFrame (s : State) (x : Sect) : SectFrame :=
  let qs := s.contributions x
  let gain := busGain (s.nom x)
  let p := (s.sect x).settings
  { u := busValue gain qs,
    feeds := (s.seatsWhere x SeatRec.listens).map fun j => (j, feedValue p gain qs j) }

/-- The feed sample of a seat in a frame: 0 where the section gives it none. -/
def SectFrame.feedOf (f : SectFrame) (j : Seat) : Int :=
  match f.feeds.find? fun q => q.1 = j with
  | some q => saturate q.2
  | none => 0

/-- The lowest-numbered seat whose feed saturates, with its direction (R116). -/
def SectFrame.feedClip (f : SectFrame) : Option (Seat × ClipDir) :=
  f.feeds.findSome? fun q => (clipDir? q.2).map fun d => (q.1, d)

/-! ### Clip counters (R115, R116) -/

/-- A CLIP notice to the MDP. -/
def State.clipNotice (s : State) (x : Sect) (seat : Option Seat) (c : ClipCounter) (d : ClipDir) : State :=
  s.notify [.mdp] (s.notice (some x) seat (.clip c d))

/-- The bus clip counter of a section at a frame: it rises where the bus saturates, with a notice on the
rise from 0. -/
def State.countBusClip (s : State) (x : Sect) (clip : Option ClipDir) : State :=
  match clip with
  | none => s
  | some d =>
    let before := (s.sect x).busClip
    let s1 := s.modSect x fun r => { r with busClip := raise16 before }
    if before = 0 then s1.clipNotice x none .bus d else s1

/-- The feed clip counter of a section at a frame: it rises by one where any feed saturates. -/
def State.countFeedClip (s : State) (x : Sect) (clip : Option (Seat × ClipDir)) : State :=
  match clip with
  | none => s
  | some (i, d) =>
    let before := (s.sect x).feedClip
    let s1 := s.modSect x fun r => { r with feedClip := raise16 before }
    if before = 0 then s1.clipNotice x (some i) .feed d else s1

/-- Both counters of a section, bus before feed. -/
def State.countClips (s : State) (x : Sect) (f : SectFrame) : State :=
  (s.countBusClip x (clipDir? f.u)).countFeedClip x f.feedClip

/-! ### Ramps (R113, R114) -/

/-- A seat record at step frame `n`: its ramp steps by its mic state, and a seat CLOSING at 0 is reported
to the floor controller. A report made again while one waits adds nothing to it (R114). -/
def stepSeat (n : Nat) (r : SeatRec) : SeatRec :=
  { r with ramp := stepRamp r.mic r.ramp,
           fadeReport := if r.mic = .closing ∧ stepRamp r.mic r.ramp = 0 then some (r.fadeReport.getD n)
             else r.fadeReport }

/-- Every ramp on the table steps, and the step frame is counted. -/
def State.stepRamps (s : State) : State :=
  { s.mapSeats (fun _ r => stepSeat s.steps r) with steps := s.steps + 1 }

/-! ### The frame (R103, R111, R112) -/

/-- The frame count of the next frame (R112). -/
def State.frameCount (s : State) : Nat := s.place % 16

/-- The seat records take their feed samples of this frame. -/
def State.pushFeeds (s : State) (fa fb : SectFrame) : State :=
  s.mapSeats fun i r =>
    { r with feedNow := (match s.sectionOf i with
        | .a => fa.feedOf i
        | .b => fb.feedOf i) :: r.feedNow }

/-- A seat record as a ring cycle ends: the microphone block that arrived in it is used next, and the
feed block it filled goes down next (R19, R20). -/
def turnBlocks (r : SeatRec) : SeatRec :=
  { r with micNow := r.micNext, micNext := [], feedLast := r.feedNow.reverse, feedNow := [] }

/-- The place of the next frame advances; after the 960th the next cycle begins. -/
def State.advanceFrame (s : State) : State :=
  if s.place ≥ 959 then { s.mapSeats (fun _ r => turnBlocks r) with place := 0 }
  else { s with place := s.place + 1 }

/-- The room outputs of a frame: bus A on output 1; on output 2 bus B when DIVIDED, bus A when JOINED
(R111). -/
def State.driveOutputs (s : State) (fa fb : SectFrame) : State :=
  { s with out1 := saturate fa.u, out2 := match s.mode with
      | .divided => saturate fb.u
      | .joined => saturate fa.u }

/-- One audio frame as one event at the mix engine (R103). -/
def State.frame (s : State) : State :=
  let fa := s.sectFrame .a
  let fb := s.sectFrame .b
  let s1 := (((s.driveOutputs fa fb).pushFeeds fa fb).countClips .a fa).countClips .b fb
  (if s.frameCount = 15 then s1.stepRamps else s1).advanceFrame

end Sys2Proof.Machine
end

