-- ==== Sys2Proof/Machine/Ticks.lean ====
section
/-! DEFINITION. The one-second clock: a section's count event, table time, the matrix poll and the
retries of OFFLINE screens (R88 to R91, R97, R100, R133, R146, R152, R175). -/

set_option autoImplicit false

namespace Sys2Proof.Machine

/-! ### The count event (R88, R97, R100) -/

/-- The cumulative speaking seconds of an ACTIVE seat rise by one, with TURN CAP at the count that
reaches the cap. -/
def State.countSpeaking (s : State) (x : Sect) (i : Seat) : State :=
  let before := (s.seat i).cumul
  let cap := (s.sect x).settings.cap
  let s1 := s.modSeat i fun r => { r with cumul := raise16 before }
  if cap ≠ 0 ∧ before < cap * 60 ∧ raise16 before = cap * 60 then s1.turnNotice i .cap none else s1

/-- The limited, running turn of an ACTIVE seat loses one second, with its WARNING or EXPIRED notice. -/
def State.countTurnOf (s : State) (x : Sect) (i : Seat) : State :=
  let r := s.sect x
  match (s.seat i).turn with
  | none => s
  | some t =>
    if r.clockHold then s
    else
      let c := countTurn r.settings.warn r.settings.expiry t
      let s1 := s.modSeat i fun q => { q with turn := some c.1 }
      let s2 := if c.2.1 then s1.turnNotice i .warning none else s1
      if c.2.2 then s2.turnNotice i .expired none else s2

/-- One ACTIVE seat at a count event. -/
def State.countSeat (s : State) (x : Sect) (i : Seat) : State := (s.countSpeaking x i).countTurnOf x i

/-- A section's count event: its ACTIVE seats in ascending order, then its timers (R88, R175). -/
def State.countEvent (s : State) (x : Sect) : State :=
  let s1 := overSeats (fun i t => t.countSeat x i) (s.seatsWhere x fun r => r.mic = .active) s
  (s1.modSect x fun r => { r with grace := r.grace.count, idle := r.idle.count }).refresh

/-- The next count event of its section brings a seat's limited turn to 0. -/
def State.expiresNext (s : State) (i : Seat) : Bool :=
  let r := s.seat i
  r.mic = .active && !(s.sect (s.sectionOf i)).clockHold &&
    match r.turn with
    | some t => t.budget ≠ 0 && t.remaining = 1
    | none => false

/-! ### The tick (R152, R133, R146) -/

/-- The second advances; past 59 it becomes 0, and a minute count that is present and not at its last
value advances, with its minute event. -/
def State.advanceTime (s : State) : State :=
  if s.second < 59 then { s with second := s.second + 1 }
  else
    match s.minute with
    | none => { s with second := 0 }
    | some m =>
      if m < lastMinute then { s with second := 0, minute := some (m + 1) }.minuteEvent (m + 1) |>.refresh
      else { s with second := 0 }

/-- The router polls the matrix: an unanswered poll raises the poll miss count, and the third clears
every present flag (R133). -/
def State.poll (s : State) : State :=
  if s.polled then
    if s.pollMiss < 2 then { s with pollMiss := s.pollMiss + 1 }
    else { s with pollMiss := 3, present := Vector.replicate 8 false }.refresh
  else { s with polled := true }

/-- Each OFFLINE screen that is dirty with nothing in flight is sent a retry (R146). -/
def State.retryScreens (s : State) : State :=
  { s with screens := Vector.ofFn fun n =>
      let r := s.screen n
      if r.link = .offline ∧ r.dirty ∧ r.inFlight = none then sendUpdate r else r }

/-- One tick of the one-second clock. -/
def State.tick (s : State) : State := (s.advanceTime.poll).retryScreens

/-- The tick that is due brings a minute event. -/
def State.minuteDue (s : State) : Bool :=
  s.second ≥ 59 && match s.minute with
    | some m => m < lastMinute
    | none => false

end Sys2Proof.Machine
end

