-- ==== Sys2Proof/Machine/Boot.lean ====
section
/-! DEFINITION. Hardware reset and the start-up load: the checks of the stored items, the reset values
of every block, and the completion of the load (R195, R196, R21, R24, R85, R122, R132, R151). -/

set_option autoImplicit false

namespace Sys2Proof.Machine

/-! ### The checks of the load (R196) -/

/-- A tile lies within the ranges of R139, its crop included. -/
def tileOk (t : Tile) : Bool :=
  t.c0 ≤ t.c1 && t.c1 ≤ 15 && t.r0 ≤ t.r1 && t.r1 ≤ 8 && t.cropC ≤ 16 - (t.c1 - t.c0 + 1) &&
    t.cropR ≤ 9 - (t.r1 - t.r0 + 1)

/-- A layout holds one to four tiles, each within its ranges. -/
def layoutOk (l : Layout) : Bool := 1 ≤ l.length && l.length ≤ 4 && l.all tileOk

/-- Every field of a profile lies within its range (Table 11-3). -/
def profileOk (p : Profile) : Bool :=
  1 ≤ p.limit && p.limit ≤ 6 && p.budget ≤ 360 && p.warn ≤ 120 && p.cap ≤ 120 && p.grace.steps ≤ 15 &&
    p.idle.steps ≤ 15 && p.ending ≤ 15 && p.overrun ≤ 10 && p.d1 ≤ 16384 && p.d2 ≤ 16384 &&
    p.d3 ≤ 16384 && p.d4 ≤ 16384 && p.volume ≤ 16384 && p.bright ≤ 255 && p.blink ≤ 15 &&
    p.layouts.toList.all layoutOk

/-- A seat map entry lies within its ranges. -/
def entryOk (e : MapEntry) : Bool := e.share.all (fun n => n < 8) && e.trim ≤ 65535

/-- Every entry of a seat map lies within its ranges. -/
def mapOk (m : Vector MapEntry 48) : Bool := m.toList.all entryOk

/-- The table settings lie within their ranges. -/
def tableOk (t : TableSettings) : Bool := 4 ≤ t.k && t.k ≤ 20 && t.freezeF ≤ 240 && t.guardG ≤ 60

/-- An item as the load takes it: as it stands where it is whole and within range, otherwise its factory
value. -/
def loadItem {α : Type} (ok : α → Bool) (factory : α) : Option α → α
  | some x => if ok x then x else factory
  | none => factory

/-- The stored items after the load has rewritten the bad ones. -/
def repairStore (d : Stored) : Stored :=
  { map := some (loadItem mapOk factoryMap d.map),
    profiles := Vector.ofFn fun n => some (loadItem profileOk factoryProfile d.profiles[n]),
    table := some (loadItem tableOk factoryTable d.table) }

/-! ### Hardware reset (R195) -/

/-- The part after a hardware reset with a settings store, its start-up load in progress: every record
at its reset value, the working copies as loaded, and the table JOINED with K = 12 until the load
completes (R24). -/
def afterReset (pending : List Instr) (d : Stored) : State :=
  let map := loadItem mapOk factoryMap d.map
  let profiles : Vector Profile 8 := Vector.ofFn fun n =>
    loadItem profileOk factoryProfile d.profiles[n]
  let table := loadItem tableOk factoryTable d.table
  let p0 := profiles[0]
  State.resolveScreens
    { pending := pending, starting := true,
      seats := Vector.ofFn fun i => seatAfterReset map[i] p0,
      north := controllerAfterReset, south := controllerAfterReset, mode := .joined, k := 12,
      defMode := table.defMode, lead := .a, secA := sectAfterReset .free p0,
      secB := sectAfterReset .merged p0, minute := none, second := 0, bookings := [], lastId := 0,
      freezeF := table.freezeF, guardG := table.guardG, place := 0, steps := 0, out1 := 0, out2 := 0,
      present := Vector.replicate 8 false, pollMiss := 0, polled := false,
      screens := Vector.ofFn fun n =>
        screenAfterReset table.assign[n] (effSection table.defMode table.assign[n]) [],
      profiles := profiles, cpa := portAfterReset, cpb := portAfterReset, scp := portAfterReset,
      mdp := portAfterReset, stored := repairStore d, write := none, tablePending := false }

/-- Power-on or the RESET line: a write in progress leaves the old content, and the commands that wait
outside the part still wait (R195, R196). -/
def State.hardwareReset (s : State) : State := afterReset s.pending s.stored

/-! ### The completion of the load (R24, R195) -/

/-- The load completes: STARTING clears on all four ports, the table takes its stored mode and split
position, and the router sends every screen its first update. -/
def State.loadComplete (s : State) : State :=
  let k := match s.stored.table with
    | some t => t.k
    | none => factoryTable.k
  let stB : SectState := match s.defMode with
    | .joined => .merged
    | .divided => .free
  (({ s with starting := false, mode := s.defMode, k := k }.modSect .b fun r =>
    { r with state := stB }).reassignScreens).refresh

end Sys2Proof.Machine
end

