-- ==== Sys2Proof/Machine/Replies.lean ====
section
/-! DEFINITION. The payloads of the reading commands, each field in the order its rule lists it (R34,
R57, R84, R117, R149, R169, R194). -/

set_option autoImplicit false

namespace Sys2Proof.Machine

/-! ### READSEAT (R84) -/

/-- Presence state, bring-up count, miss count, unit kind and fault record. -/
def encPresence (r : SeatRec) : List Byte :=
  enc8 r.presence.code ++ enc8 r.bringUp ++ enc8 r.miss ++ opt8 (r.kind.map UnitKind.code) ++
    opt8 (r.fault.map fun f => f.step) ++ opt8 (r.fault.map fun f => f.reason.code)

/-- The session part, each field absent where there is none. -/
def encPart (part : Option SessionPart) : List Byte :=
  opt8 (part.map fun p => p.role.code) ++ optText (part.bind fun p => p.name) ++
    opt8 (part.bind fun p => p.share)

/-- Mic state, ramp level, slot, admission stamp and opened-by-priority flag. -/
def encMic (r : SeatRec) : List Byte :=
  enc8 r.mic.code ++ enc8 r.ramp ++ opt8 r.slot ++ opt16 r.stamp ++ encFlag r.byPriority

/-- A queue entry's class, stamp and place, each absent where there is none. -/
def encEntryOf (e : Option QEntry) (place : Option Nat) : List Byte :=
  opt8 (e.map fun q => q.cls.code) ++ opt16 (e.map fun q => q.stamp) ++ opt8 place

/-- A turn's remaining seconds and flags, each absent where there is none. -/
def encTurn : Option Turn → List Byte
  | none => opt16 none ++ opt8 none ++ opt8 none
  | some t => encSigned16 t.remaining ++ encFlag t.warned ++ encFlag t.expired

/-- The payload of READSEAT. -/
def State.seatReply (s : State) (i : Seat) : List Byte :=
  let r := s.seat i
  let x := s.sectionOf i
  enc8 i.val ++ enc8 (sideCode (seatSide i)) ++ enc8 (seatPos i) ++ enc8 (sectCode x) ++ encPresence r ++
    encEntry r.map ++ encPart r.part ++ encMic r ++
    encEntryOf (s.queueEntry x i) (placeIn i (s.sect x).queue) ++ encTurn r.turn ++ enc16 r.cumul ++
    enc8 r.ringVer ++ enc8 r.plateVer ++ opt8 r.ackRing ++ opt8 r.ackPlate

/-! ### READSECT (R34) -/

/-- The members of the priority holder set: the seats ascending, then the console, whose byte the spec
does not state (assumption 6). -/
def encHolders (r : SectRec) : List Byte :=
  enc8 r.holderCount ++ r.holders.flatMap (fun i => enc8 i.val) ++
    if r.console then [Config.consoleMemberCode] else []

/-- The lead port that READSECT of a section sends: CPA, as Table 3-3 gives, for a section B that is MERGED (R34);
otherwise the one that section A's record keeps (R29; for a section B that is not MERGED DEDUCED, assumption 45). -/
def State.leadShown (s : State) (x : Sect) : Sect := if (s.sect x).state = .merged then .a else s.lead

/-- The payload of READSECT (R34). -/
def State.sectReply (s : State) (x : Sect) : List Byte :=
  let r := s.sect x
  enc8 s.mode.code ++ enc8 s.k ++ enc8 s.defMode.code ++ enc8 (sectCode (s.leadShown x)) ++ enc8 r.state.code ++
    opt16 r.booking ++ encList (fun i => enc8 i.val) r.chairs ++ encHolders r ++ encFlag r.clockHold ++
    enc8 r.queue.length ++ enc8 (s.heldSlots x) ++ encPresenter r.presenter ++ opt16 r.grace.left ++
    opt16 r.idle.left ++ enc16 r.stampCtr ++ enc8 r.loaded.val

/-! ### READQUEUE (R57) -/

/-- One entry of a READQUEUE reply. -/
def encQEntry (e : QEntry) : List Byte := enc8 e.seat.val ++ enc8 e.cls.code ++ enc16 e.stamp

/-- The payload of READQUEUE. -/
def State.queueReply (s : State) (x : Sect) : List Byte :=
  let r := s.sect x
  enc8 r.state.code ++ enc8 r.settings.floorMode.code ++ encFlag r.settings.override ++
    enc8 r.settings.limit ++ enc8 r.settings.keyMode.code ++ enc8 (s.delegateCount x) ++
    encFlag (s.priorityOn x) ++ enc16 r.reqCtr ++ encList encQEntry r.queue

/-! ### LEVELS (R117) -/

/-- One section's part of a LEVELS reply. -/
def State.levelsOf (s : State) (x : Sect) : List Byte :=
  let r := s.sect x
  enc8 r.state.code ++ enc8 (s.nom x) ++ enc8 (s.mixedSet x).length ++ enc16 r.busClip ++ enc16 r.feedClip

/-! ### LIST and READBOOK (R169) -/

/-- One booking's summary in a LIST reply. -/
def encSummary (b : Booking) : List Byte :=
  enc16 b.id ++ enc8 b.span.code ++ opt32 b.start ++ opt32 b.stop ++ enc8 b.profile.val ++
    enc8 (sectCode b.lead) ++ enc8 b.origin.code ++ enc8 b.state.code ++ enc8 b.roster.length

/-- The payload of LIST from an index on. -/
def State.listReply (s : State) (index : Nat) : List Byte :=
  enc8 s.bookings.length ++ enc8 index ++ encList encSummary ((s.bookings.drop index).take 8)

/-- The section a RUNNING booking runs in and that section's state; absent for a PENDING one. -/
def State.runningIn (s : State) (b : Booking) : List Byte :=
  match b.state with
  | .pending => opt8 none ++ opt8 none
  | .running => enc8 (sectCode (spanSection b.span)) ++ enc8 (s.sect (spanSection b.span)).state.code

/-- Part 0 of READBOOK. -/
def State.bookReply (s : State) (b : Booking) : List Byte :=
  enc16 b.id ++ enc8 b.span.code ++ opt32 b.start ++ opt32 b.stop ++ enc8 b.profile.val ++
    enc8 (sectCode b.lead) ++ encText b.title ++ enc8 b.origin.code ++ enc8 b.state.code ++
    enc8 b.roster.length ++ s.runningIn b

/-- One roster entry in a READBOOK reply: seat, name, share input or none. -/
def encRosterEntry (e : RosterEntry) : List Byte := enc8 e.seat.val ++ encText e.name ++ opt8 e.share

/-- Part p, 1 to 8, of READBOOK: the entries at places 6(p − 1) to 6p − 1. -/
def rosterReply (b : Booking) (part : Nat) : List Byte :=
  encList encRosterEntry ((b.roster.drop (6 * (part - 1))).take 6)

/-! ### SCREEN (R149, R194) -/

/-- The number of lines a resolved tile holds: those of a caption, 0 for any other content. -/
def Shown.lineCount : Shown → Nat
  | .caption _ _ lines => lines.length
  | .picture .. => 0
  | .noSignal .. => 0
  | .black => 0

/-- A resolved content with the first `carried` lines of its caption. Of a NO SIGNAL the source alone is sent, as
R149 gives. A caption has its two counts, the lines it holds and the lines carried, in every SCREEN reply, one that
fits in 252 bytes too, for which R194 asks only the second (DESIGN CHOICE, assumption 46). -/
def encShown (carried : Nat) : Shown → List Byte
  | .picture source c r => enc8 0 ++ enc8 source.val ++ enc8 c ++ enc8 r
  | .noSignal source _ _ => enc8 1 ++ enc8 source.val
  | .caption kind heading lines =>
    enc8 2 ++ enc8 kind.code ++ encText heading ++ enc8 lines.length ++
      encList encText (lines.take carried)
  | .black => enc8 3

/-- A resolved tile with the number of its caption lines that are carried. -/
def encShownTile (t : ResolvedTile × Nat) : List Byte :=
  enc8 t.1.c0 ++ enc8 t.1.c1 ++ enc8 t.1.r0 ++ enc8 t.1.r1 ++ encShown t.2 t.1.shown

/-- The last tile that still carries a line gives up one. -/
def dropLine (l : List (ResolvedTile × Nat)) : List (ResolvedTile × Nat) :=
  match l with
  | [] => []
  | t :: rest =>
    if rest.any fun q => 0 < q.2 then t :: dropLine rest else (t.1, t.2 - 1) :: rest

/-- Lines are dropped, last tile first, until the tiles fit in `room` bytes; four captions carry at most
32 lines. -/
def fitTiles (room : Nat) : Nat → List (ResolvedTile × Nat) → List (ResolvedTile × Nat)
  | 0, l => l
  | fuel + 1, l => if (l.flatMap encShownTile).length ≤ room then l else fitTiles room fuel (dropLine l)

/-- The screen record's own fields in a SCREEN reply. With nothing in flight the in-flight version is sent as absent,
FFFFh (DESIGN CHOICE, assumption 36). -/
def encScreenHead (n : ScreenNo) (r : ScreenRec) : List Byte :=
  enc8 n.val ++ enc8 (sectCode r.assigned) ++ enc8 (sectCode r.eff) ++ enc8 r.link.code ++
    encFlag r.dirty ++ opt16 r.version ++ encFlag r.inFlight.isSome ++ opt16 r.inFlight

/-- The presenter, the source table and the poll miss count in a SCREEN reply. -/
def State.encSources (s : State) (x : Sect) : List Byte :=
  encPresenter (s.sect x).presenter ++
    (List.finRange 8).flatMap (fun n => encFlag s.present[n] ++ optSeat (s.owner n.val)) ++
    enc8 s.pollMiss

/-- The payload of SCREEN. -/
def State.screenReply (s : State) (n : ScreenNo) : List Byte :=
  let r := s.screen n
  let head := encScreenHead n r
  let tail := s.encSources r.eff
  let tiles := fitTiles (251 - head.length - tail.length) 33
    (r.layout.map fun t => (t, t.shown.lineCount))
  head ++ encList encShownTile tiles ++ tail

end Sys2Proof.Machine
end

