-- ==== Sys2Proof/WellFormed.lean ====
section
/-! DEFINITION. The checks on a command's operands that its Lean type does not make: what the
interfaces of the part can carry at all. A command that fails them is no event of the hardware. -/

set_option autoImplicit false

namespace Sys2Proof

/-- The command codes of Table 12-3, STATUS and FETCH among them. -/
def tableCodes : List Nat :=
  [0x00, 0x01, 0x10, 0x11, 0x12] ++
  [0x20, 0x21, 0x22, 0x23, 0x24, 0x25, 0x26, 0x27, 0x28, 0x29, 0x2A, 0x2B, 0x2C, 0x2D, 0x2E, 0x2F] ++
  [0x40, 0x41, 0x42, 0x43, 0x44, 0x45, 0x46, 0x47, 0x48, 0x49] ++
  [0x60, 0x61, 0x62, 0x63, 0x64, 0x65, 0x66, 0x67, 0x68, 0x69, 0x6A, 0x6B, 0x6C]

/-- A request's payload holds at most 250 bytes: above that the transaction is FRAMING's (R189). -/
def payloadFits (payload : List Byte) : Bool := payload.length ≤ 250

/-- A record version as a unit reports it: none, or 1 to 254 (R16). -/
def reportedVersionOk (v : Option Nat) : Bool :=
  match v with
  | none => true
  | some n => 1 ≤ n && n ≤ 254

/-- A microphone sample is a 24-bit signed integer (spec/01_the_seat_ring.md 2.6). -/
def sampleOk (x : Int) : Bool := -8388608 ≤ x && x ≤ 8388607

/-- What the READY content of an answer can hold (R3): a sequence number 0 to 255, at most four key
events, versions, and a block of 960 samples. -/
def UpContent.shapeOk : UpContent → Bool
  | .bare => true
  | .unitKind code => code < 256
  | .configAck => true
  | .ready firstSeq events ackRing ackPlate mic =>
    firstSeq < 256 && events.length ≤ 4 && reportedVersionOk ackRing && reportedVersionOk ackPlate &&
      mic.length = 960 && mic.all sampleOk

/-- The command is one that the part's interfaces can carry. -/
def Instr.wellFormed : Instr → Bool
  | .hardwareReset => true
  | .startUpLoadComplete => true
  | .visitOpen _ => true
  | .answerArrival _ msg => msg.content.shapeOk
  | .missedVisit _ => true
  | .missCountLimit _ => true
  | .poweringTimeout _ => true
  | .audioFrame => true
  | .rampStep => true
  | .fadeComplete _ => true
  | .countEvent _ => true
  | .expired _ => true
  | .expiryClose _ => true
  | .graceExpiry _ => true
  | .idleExpiry _ => true
  | .secondTick => true
  | .minuteEvent => true
  | .sources _ => true
  | .pollMissLimit => true
  | .ack n version => n < 256 && version < 65536
  | .ackTimeout _ => true
  | .hello n => n < 256
  | .storeWriteComplete => true
  | .status _ => true
  | .fetch _ _ => true
  | .framing _ _ => true
  | .illegal _ code payload => !tableCodes.contains code.toNat && payloadFits payload
  | .readSeat _ payload => payloadFits payload
  | .readSect _ payload => payloadFits payload
  | .readQueue _ payload => payloadFits payload
  | .walkIn _ payload => payloadFits payload
  | .checkIn _ payload => payloadFits payload
  | .endMeeting _ payload => payloadFits payload
  | .extend _ payload => payloadFits payload
  | .grant _ payload => payloadFits payload
  | .deny _ payload => payloadFits payload
  | .close _ payload => payloadFits payload
  | .closeAll _ payload => payloadFits payload
  | .nextSeat _ payload => payloadFits payload
  | .promote _ payload => payloadFits payload
  | .priority _ payload => payloadFits payload
  | .floor _ payload => payloadFits payload
  | .addTime _ payload => payloadFits payload
  | .clock _ payload => payloadFits payload
  | .share _ payload => payloadFits payload
  | .unshare _ payload => payloadFits payload
  | .setTime _ payload => payloadFits payload
  | .book _ payload => payloadFits payload
  | .roster _ payload => payloadFits payload
  | .unroster _ payload => payloadFits payload
  | .move _ payload => payloadFits payload
  | .cancel _ payload => payloadFits payload
  | .freeze _ payload => payloadFits payload
  | .list _ payload => payloadFits payload
  | .readBook _ payload => payloadFits payload
  | .clearTable _ payload => payloadFits payload
  | .trim _ payload => payloadFits payload
  | .neighbour _ payload => payloadFits payload
  | .volume _ payload => payloadFits payload
  | .layout _ payload => payloadFits payload
  | .split _ payload => payloadFits payload
  | .seatMap _ payload => payloadFits payload
  | .profile _ payload => payloadFits payload
  | .storeProf _ payload => payloadFits payload
  | .storeMap _ payload => payloadFits payload
  | .levels _ payload => payloadFits payload
  | .screen _ payload => payloadFits payload
  | .reseat _ payload => payloadFits payload
  | .screenSect _ payload => payloadFits payload

end Sys2Proof
end

