-- ==== Sys2Proof/Machine/Events.lean ====
section
/-! DEFINITION. The meanings of the commands that are events: reset and load, the seat rings, the audio
frame, the one-second clock, the floor and section controllers' reports, the display link, the settings
store and the port transactions that are no requests. Six rows of the table name an event that lies
inside another row's event: each of those acts as the whole event in exactly the case it names, and
changes nothing where that case is not due (assumption 4). -/

set_option autoImplicit false

namespace Sys2Proof.Machine

/-! ### Reset and load -/

/-- HARDWARE_RESET (R195). -/
def execHardwareReset (s : State) : Host.Outcome State Fault Refusal := .next s.hardwareReset

/-- START_UP_LOAD_COMPLETE (R195): it comes once after each reset. -/
def execStartUpLoadComplete (s : State) : Host.Outcome State Fault Refusal :=
  .next (if s.starting then s.loadComplete else s)

/-! ### The seat rings -/

/-- VISIT_OPEN (R1, R2): the rings wait for the load, and a ring opens a visit when the one before is
over. -/
def execVisitOpen (d : Side) (s : State) : Host.Outcome State Fault Refusal :=
  .next (if s.starting || (s.ring d).visit.isSome then s else s.openVisit d)

/-- ANSWER_ARRIVAL (R3): the first well-formed message of the open visit is its answer; any other is
discarded. -/
def execAnswerArrival (d : Side) (m : UpMsg) (s : State) : Host.Outcome State Fault Refusal :=
  .next (match (s.ring d).visit with
    | none => s
    | some p => if fitsVisit m p then (s.closeVisit d).answered (seatAt d p) m else s)

/-- MISSED_VISIT (R4): the open visit closes unanswered. -/
def execMissedVisit (d : Side) (s : State) : Host.Outcome State Fault Refusal :=
  .next (match s.visited d with
    | none => s
    | some i => (s.closeVisit d).missVisit i)

/-- MISS_COUNT_LIMIT (R4): the missed visit that brings the miss count of the visited seat to 3. -/
def execMissCountLimit (d : Side) (s : State) : Host.Outcome State Fault Refusal :=
  .next (match s.visited d with
    | none => s
    | some i =>
      if (s.seat i).presence ≠ .absent ∧ 3 ≤ (s.seat i).miss + 1 then (s.closeVisit d).missVisit i else s)

/-- POWERING_TIMEOUT (R6): the visit without GOOD that brings the bring-up count to 100. -/
def execPoweringTimeout (d : Side) (s : State) : Host.Outcome State Fault Refusal :=
  .next (match s.visited d with
    | none => s
    | some i =>
      if (s.seat i).presence = .powering ∧ 100 ≤ (s.seat i).bringUp + 1 then
        (s.closeVisit d).enterFault i 2 .timeout
      else s)

/-! ### Audio -/

/-- AUDIO_FRAME (R103): frames wait for the load. -/
def execAudioFrame (s : State) : Host.Outcome State Fault Refusal :=
  .next (if s.starting then s else s.frame)

/-- RAMP_STEP (R113): the frame whose count is 15. -/
def execRampStep (s : State) : Host.Outcome State Fault Refusal :=
  .next (if s.starting then s else if s.frameCount = 15 then s.frame else s)

/-- The seat of a list, taken in its order, whose waiting fade complete report was made first. -/
def State.firstFade (s : State) : List Seat → Option Seat
  | [] => none
  | i :: rest =>
    match (s.seat i).fadeReport, s.firstFade rest with
    | none, found => found
    | some _, none => some i
    | some m, some j => if (s.seat j).fadeReport.getD 0 < m then some j else some i

/-- The seat whose fade complete report the floor controller takes next: of those that wait, the one made at the
earliest step frame, and of one step frame the lowest seat number (R114). -/
def State.nextFade (s : State) : Option Seat := s.firstFade seatList

/-- FADE_COMPLETE (R70): the seat's report is taken when it is the first of those that wait; a report that has
not been made, or whose turn has not come, changes nothing (assumption 5). -/
def execFadeComplete (i : Seat) (s : State) : Host.Outcome State Fault Refusal :=
  .next (if s.nextFade = some i then
    (s.floorEvent (s.sectionOf i) false fun t =>
      t.modSeat i fun r => { endFade r with fadeReport := none }).refresh
  else s)

/-! ### Turns and timers -/

/-- COUNT_EVENT (R88): the clock waits for the load. -/
def execCountEvent (x : Sect) (s : State) : Host.Outcome State Fault Refusal :=
  .next (if s.starting then s else s.countEvent x)

/-- EXPIRED (R90, R91): the count event of the seat's section that brings its limited turn to 0. -/
def execExpired (i : Seat) (s : State) : Host.Outcome State Fault Refusal :=
  .next (if s.starting then s else if s.expiresNext i then s.countEvent (s.sectionOf i) else s)

/-- A seat's turn with its expiry report taken. -/
def takeExpiry (r : SeatRec) : SeatRec := { r with turn := r.turn.map fun t => { t with reported := false } }

/-- A report of the expiry of a seat's turn is waiting. -/
def SeatRec.expiryReported (r : SeatRec) : Bool :=
  match r.turn with
  | some t => t.reported
  | none => false

/-- EXPIRY_CLOSE (R73): the report is taken, and the seat is closed if it is still ACTIVE. -/
def execExpiryClose (i : Seat) (s : State) : Host.Outcome State Fault Refusal :=
  .next (if (s.seat i).expiryReported then
    if (s.seat i).mic = .active then
      ((s.modSeat i takeExpiry).floorEvent (s.sectionOf i) false fun t => t.close i .expired).refresh
    else s.modSeat i takeExpiry
  else s)

/-- GRACE_EXPIRY (R176): the grace timer has run out and the section is still in GRACE. -/
def execGraceExpiry (x : Sect) (s : State) : Host.Outcome State Fault Refusal :=
  .next (if (s.sect x).state = .grace ∧ (s.sect x).grace = .runOut then (s.endSession x .noShow).refresh
  else s)

/-- IDLE_EXPIRY (R183): the idle timer has run out and the section is still in SESSION or ENDING. -/
def execIdleExpiry (x : Sect) (s : State) : Host.Outcome State Fault Refusal :=
  .next (if ((s.sect x).state = .session ∨ (s.sect x).state = .ending) ∧ (s.sect x).idle = .runOut then
    (s.endSession x .idle).refresh
  else s)

/-- SECOND_TICK (R152): the clock waits for the load. -/
def execSecondTick (s : State) : Host.Outcome State Fault Refusal :=
  .next (if s.starting then s else s.tick)

/-- MINUTE_EVENT (R167): the tick with which the minute count advances. -/
def execMinuteEvent (s : State) : Host.Outcome State Fault Refusal :=
  .next (if s.starting then s else if s.minuteDue then s.tick else s)

/-! ### The display link -/

/-- SOURCES (R133): the present flags are replaced, and the poll is answered. -/
def execSources (present : Vector Bool 8) (s : State) : Host.Outcome State Fault Refusal :=
  .next (if s.starting then s
  else { s with present := present, pollMiss := 0, polled := false }.refresh)

/-- POLL_MISS_LIMIT (R133): the tick whose poll brings the poll miss count to 3. -/
def execPollMissLimit (s : State) : Host.Outcome State Fault Refusal :=
  .next (if s.starting then s else if s.polled && s.pollMiss = 2 then s.tick else s)

/-- A screen's update has ended: nothing in flight, its timer stopped. With the in-flight flag the in-flight
version goes too (DESIGN CHOICE, assumption 36). -/
def endUpdate (r : ScreenRec) : ScreenRec := { r with inFlight := none, ackTimer := none }

/-- A screen becomes ONLINE, with a notice where it was not (R145, R147). -/
def State.bringOnline (s : State) (n : ScreenNo) : State :=
  let was := (s.screen n).link
  let s1 := s.modScreen n fun r => { r with link := .online }
  if was = .online then s1 else s1.screenNotice n

/-- A screen is sent an update if it is owed one (R144). -/
def State.sendIfDue (s : State) (n : ScreenNo) : State :=
  s.modScreen n fun r => if r.due then sendUpdate r else r

/-- ACK (R145): only the acknowledgement of the version in flight counts. -/
def execAck (screen version : Nat) (s : State) : Host.Outcome State Fault Refusal :=
  .next (match screenOf? screen with
    | none => s
    | some n =>
      if (s.screen n).inFlight = some version then
        ((s.modScreen n endUpdate).bringOnline n).sendIfDue n
      else s)

/-- ACK_TIMEOUT (R146): the acknowledgement timer of an update in flight runs out. -/
def execAckTimeout (n : ScreenNo) (s : State) : Host.Outcome State Fault Refusal :=
  .next (if (s.screen n).inFlight.isSome then
    let s1 := s.modScreen n fun r => { endUpdate r with dirty := true }
    if (s.screen n).link = .offline then s1
    else (s1.modScreen n fun r => { r with link := .offline }).screenNotice n
  else s)

/-- HELLO (R147): a number above 3 is ignored; the link waits for the load. -/
def execHello (screen : Nat) (s : State) : Host.Outcome State Fault Refusal :=
  .next (match screenOf? screen with
    | none => s
    | some n =>
      if s.starting then s
      else ((s.modScreen n fun r => { endUpdate r with dirty := true }).bringOnline n).sendIfDue n)

/-! ### The store and the ports -/

/-- STORE_WRITE_COMPLETE (R196, R198). -/
def execStoreWriteComplete (s : State) : Host.Outcome State Fault Refusal :=
  .next (match s.write with
    | none => s
    | some j => s.completeWrite j)

/-- STATUS (R189, R190): 00h is shifted out for each byte clocked after the status byte. -/
def execStatus (r : StatusRead) (s : State) : Host.Outcome State Fault Refusal :=
  .next (s.shiftOut r.port (List.replicate r.clocked 0))

/-- FETCH (R192). -/
def execFetch (p : Port) (clocked : Nat) (s : State) : Host.Outcome State Fault Refusal :=
  .next (s.fetch p clocked)

/-- FRAMING (R189): the transaction is discarded. One that is not to be discarded is no FRAMING event, and changes
nothing. -/
def execFraming (p : Port) (t : Clocked) (s : State) : Host.Outcome State Fault Refusal :=
  .next (if t.discarded then (s.shiftDiscarded p t.bytes).markFraming p else s)

/-- ILLEGAL (R191): a request whose command code is not in Table 12-3. -/
def execIllegal (p : Port) (code : Byte) (payload : List Byte) (s : State) :
    Host.Outcome State Fault Refusal :=
  .next (if tableCodes.contains code.toNat then s
  else s.transact p code payload allPorts true fun t => t.refused .illegal)

end Sys2Proof.Machine
end

