-- ==== Sys2Proof/Machine/ReadCommands.lean ====
section
/-! DEFINITION. The meanings of the reading commands that every port may send. -/

set_option autoImplicit false

namespace Sys2Proof.Machine

/-- READSEAT (R84). -/
def execReadSeat (p : Port) (payload : List Byte) (s : State) : Host.Outcome State Fault Refusal :=
  .next (s.transact p 0x10 payload allPorts (payload.length = 1) fun t =>
    match seatOf? (byteAt payload 0) with
    | none => t.refused .range
    | some i => t.ok (t.seatReply i))

/-- READSECT (R34). -/
def execReadSect (p : Port) (payload : List Byte) (s : State) : Host.Outcome State Fault Refusal :=
  .next (s.transact p 0x11 payload allPorts (payload.length = 1) fun t =>
    match sectOf? (byteAt payload 0) with
    | none => t.refused .range
    | some x => t.ok (t.sectReply x))

/-- READQUEUE (R57). -/
def execReadQueue (p : Port) (payload : List Byte) (s : State) : Host.Outcome State Fault Refusal :=
  .next (s.transact p 0x12 payload allPorts (payload.length = 1) fun t =>
    match sectOf? (byteAt payload 0) with
    | none => t.refused .range
    | some x => t.ok (t.queueReply x))

end Sys2Proof.Machine
end

