-- ==== Sys2Proof/Machine/ChairCommands.lean ====
section
/-! DEFINITION. The meanings of the chair commands, 20h to 2Fh (R32, spec/03, spec/04, spec/05, spec/08
9.2, spec/10). -/

set_option autoImplicit false

namespace Sys2Proof.Machine

/-! ### Shared checks (R32, R51) -/

/-- A chair command that names a seat: above 47, or outside the commanded section, it is refused RANGE. -/
def State.withSeat (s : State) (x : Sect) (n : Nat) (f : Seat → Taken) : Taken :=
  match seatOf? n with
  | none => s.refused .range
  | some i => if s.sectionOf i = x then f i else s.refused .range

/-- A command taken in SESSION, ENDING and OVERRUN, refused WRONG_STATE otherwise. -/
def State.whenOpen (s : State) (x : Sect) (t : Taken) : Taken :=
  if (s.sect x).state.floorOpen then t else s.refused .wrongState

/-- A command of one flag byte, 0 or 1: any other value is refused RANGE, before the state. -/
def State.withFlag (s : State) (n : Nat) (f : Bool → Taken) : Taken :=
  match flagOf? n with
  | none => s.refused .range
  | some b => f b

/-! ### Sessions (R178, R177, R184, R180) -/

/-- The span of a WALKIN that its port may ask for: its own half or JOINED. -/
def walkInSpan? (half : Sect) (n : Nat) : Option Span :=
  match spanOf? n with
  | none => none
  | some sp => if sp = .joined ∨ sp = halfSpan half then some sp else none

/-- The sections a walk-in needs are free (R178, step 2). -/
def State.walkInFree (s : State) (half : Sect) (sp : Span) : Bool :=
  match s.mode with
  | .joined => s.secA.state = .free
  | .divided =>
    match sp with
    | .joined => s.secA.state = .free && s.secB.state = .free
    | .a | .b => (s.sect half).state = .free

/-- The booking of a walk-in (R165, R178). -/
def State.walkInBooking (s : State) (half : Sect) (sp : Span) (start stop : Option Nat) (n : ProfileNo) :
    Booking :=
  { id := s.newId, span := sp, start := start, stop := stop, profile := n, lead := half, title := [],
    roster := [], origin := .walkIn, state := .running }

/-- A walk-in that is taken: its booking, BOOKING WALKIN, any division change, its session, the reply. -/
def State.takeWalkIn (s : State) (b : Booking) : Taken :=
  let s1 := (s.addBooking b).bookingNotice [.scp] b .walkIn none none none
  let s2 := ((s1.prepareTable b).startSession b).refresh
  s2.ok (enc16 b.id ++ enc8 b.span.code ++ opt32 b.stop ++
    enc8 (s2.sect (spanSection b.span)).state.code)

/-- The checks of a WALKIN in the order of R178. -/
def State.walkIn (s : State) (half : Sect) (payload : List Byte) : Taken :=
  match walkInSpan? half (byteAt payload 0), profileOf? (byteAt payload 3) with
  | some sp, some n =>
    if s.walkInFree half sp then
      match s.walkInInterval sp (word16At payload 1) with
      | .error code => s.refused code
      | .ok (start, stop) => s.takeWalkIn (s.walkInBooking half sp start stop n)
    else s.refused .wrongState
  | _, _ => s.refused .range

/-- The lead check of a WALKIN: the non-lead port of a JOINED table may send it while A is FREE (R32). -/
def State.walkInFrom (s : State) (p : Port) (payload : List Byte) : Taken :=
  match portHalf p, s.commanded p with
  | some half, some x => (s.retriggerIdle x).walkIn half payload
  | some half, none => if s.secA.state = .free then s.walkIn half payload else s.refused .notLead
  | none, _ => s.refused .notLead

/-- WALKIN (R178). -/
def execWalkIn (p : Port) (payload : List Byte) (s : State) : Host.Outcome State Fault Refusal :=
  .next (s.transact p 0x20 payload chairs (payload.length = 4) fun t => t.walkInFrom p payload)

/-- CHECKIN of a section from outside (R177). -/
def State.checkInTaken (s : State) (x : Sect) (source : CheckInSource) : Taken :=
  if (s.sect x).state = .grace then
    let s1 := (s.checkIn x source none).refresh
    s1.ok (enc8 (s1.sect x).state.code)
  else s.refused .wrongState

/-- CHECKIN (R177): no payload from a chair port, a section number from the SCP. -/
def execCheckIn (p : Port) (payload : List Byte) (s : State) : Host.Outcome State Fault Refusal :=
  .next (s.transact p 0x21 payload [.cpa, .cpb, .scp]
    (if p = .scp then payload.length = 1 else payload.length = 0) fun t =>
      if p = .scp then
        match sectOf? (byteAt payload 0) with
        | none => t.refused .range
        | some x => t.checkInTaken x .scp
      else t.asChair p fun x u => u.checkInTaken x .console)

/-- END of a section's session (R184). -/
def State.endTaken (s : State) (x : Sect) : Taken :=
  if (s.sect x).state.running then
    (s.endSession x .end_).refresh.ok (opt16 (s.sect x).booking)
  else s.refused .wrongState

/-- END (R184). -/
def execEndMeeting (p : Port) (payload : List Byte) (s : State) : Host.Outcome State Fault Refusal :=
  .next (s.transact p 0x22 payload chairs (payload.length = 0) fun t => t.asChair p fun x u => u.endTaken x)

/-- The states EXTEND is taken in: GRACE, SESSION and ENDING. -/
def SectState.extendable : SectState → Bool
  | .grace | .session | .ending => true
  | .free | .overrun | .merged => false

/-- The calendar's part of EXTEND for a running booking with end minute e (R166). -/
def State.extendBooking (s : State) (x : Sect) (b : Booking) (e minutes : Nat) : Taken :=
  if e + minutes > lastMinute then s.refused .range
  else if (s.conflicting (some b.id) b.span b.start (some (e + minutes))).isEmpty then
    let s1 := (s.setEnd b.id (e + minutes) .extend).refresh
    s1.ok (enc32 (e + minutes) ++ enc8 (s1.sect x).state.code)
  else (s, .now .conflict (opt32 (s.latestEnd b e)))

/-- EXTEND of a section's running booking (R180). -/
def State.extendTaken (s : State) (x : Sect) (minutes : Nat) : Taken :=
  if minutes < 1 ∨ 120 < minutes then s.refused .range
  else if (s.sect x).state.extendable then
    match s.runningBooking x with
    | none => s.refused .wrongState
    | some b =>
      match b.stop with
      | none => s.refused .wrongState
      | some e => s.extendBooking x b e minutes
  else s.refused .wrongState

/-- EXTEND (R180). -/
def execExtend (p : Port) (payload : List Byte) (s : State) : Host.Outcome State Fault Refusal :=
  .next (s.transact p 0x23 payload chairs (payload.length = 1) fun t =>
    t.asChair p fun x u => u.extendTaken x (byteAt payload 0))

/-! ### The queue (R51 to R55) -/

/-- GRANT of a seat is refused WRONG_STATE (R52). -/
def State.grantBarred (s : State) (x : Sect) (i : Seat) : Bool :=
  (s.sect x).state = .overrun || s.priorityOn x || (s.seat i).isChair || (s.seat i).presence ≠ .ready ||
    (s.seat i).mic.onFloor

/-- GRANT of a seat of an open section (R52). -/
def State.grantTaken (s : State) (x : Sect) (i : Seat) : Taken :=
  if s.grantBarred x i then s.refused .wrongState
  else if s.belowLimit x then
    let s1 := (s.floorEvent x false fun t => (t.removeEntry x i .granted).grant i .grant).refresh
    s1.ok (enc8 (s1.seat i).mic.code)
  else s.refused .limit

/-- GRANT (R52). -/
def execGrant (p : Port) (payload : List Byte) (s : State) : Host.Outcome State Fault Refusal :=
  .next (s.transact p 0x24 payload chairs (payload.length = 1) fun t => t.asChair p fun x u =>
    u.withSeat x (byteAt payload 0) fun i => u.whenOpen x (u.grantTaken x i))

/-- DENY of a seat of an open section (R54). -/
def State.denyTaken (s : State) (x : Sect) (i : Seat) : Taken :=
  if (s.queueEntry x i).isSome then
    (s.floorEvent x false fun t => (t.removeEntry x i .denied).denial i).refresh.ok []
  else if (s.seat i).mic.onFloor then s.refused .tooLate
  else s.refused .notFound

/-- DENY (R54). -/
def execDeny (p : Port) (payload : List Byte) (s : State) : Host.Outcome State Fault Refusal :=
  .next (s.transact p 0x25 payload chairs (payload.length = 1) fun t => t.asChair p fun x u =>
    u.withSeat x (byteAt payload 0) fun i => u.whenOpen x (u.denyTaken x i))

/-- NEXT in an open section (R53). -/
def State.nextTaken (s : State) (x : Sect) : Taken :=
  if (s.sect x).state = .overrun ∨ s.priorityOn x then s.refused .wrongState
  else
    match (s.sect x).queue with
    | [] => s.refused .notFound
    | e :: _ =>
      if s.belowLimit x then
        let s1 := (s.floorEvent x false fun t => (t.removeEntry x e.seat .granted).grant e.seat .next).refresh
        s1.ok (enc8 e.seat.val ++ enc8 (s1.seat e.seat).mic.code)
      else s.refused .limit

/-- NEXT (R53). -/
def execNextSeat (p : Port) (payload : List Byte) (s : State) : Host.Outcome State Fault Refusal :=
  .next (s.transact p 0x28 payload chairs (payload.length = 0) fun t => t.asChair p fun x u =>
    u.whenOpen x (u.nextTaken x))

/-- A queue with a seat's entry made PROMOTED and placed after the last PROMOTED entry (R55). -/
def promoteIn (e : QEntry) (q : List QEntry) : List QEntry :=
  let others := q.filter fun f => f.seat ≠ e.seat
  others.filter (fun f => f.cls = .promoted) ++ { e with cls := .promoted } ::
    others.filter (fun f => f.cls = .normal)

/-- A seat's NORMAL entry is promoted, with its QUEUE notice. -/
def State.promoteEntry (s : State) (x : Sect) (e : QEntry) : State :=
  let s1 := s.modSect x fun r => { r with queue := promoteIn e r.queue }
  s1.queueNotice x (some e.seat) .promoted .promote none (some { e with cls := .promoted })
    (placeIn e.seat (s1.sect x).queue)

/-- PROMOTE of a seat of an open section (R55). -/
def State.promoteTaken (s : State) (x : Sect) (i : Seat) : Taken :=
  match s.queueEntry x i with
  | some e =>
    let s1 := match e.cls with
      | .promoted => s
      | .normal => (s.promoteEntry x e).refresh
    s1.ok (opt8 (placeIn i (s1.sect x).queue))
  | none => if (s.seat i).mic.onFloor then s.refused .tooLate else s.refused .notFound

/-- PROMOTE (R55). -/
def execPromote (p : Port) (payload : List Byte) (s : State) : Host.Outcome State Fault Refusal :=
  .next (s.transact p 0x29 payload chairs (payload.length = 1) fun t => t.asChair p fun x u =>
    u.withSeat x (byteAt payload 0) fun i => u.whenOpen x (u.promoteTaken x i))

/-! ### The floor (R56, R71, R72, R76) -/

/-- CLOSE of a seat of an open section (R71). -/
def State.closeTaken (s : State) (x : Sect) (i : Seat) : Taken :=
  if (s.seat i).mic.onFloor then
    let s1 := (s.floorEvent x false fun t => t.close i .close).refresh
    s1.ok (enc8 (s1.seat i).mic.code ++ enc8 (s1.delegateCount x))
  else s.refused .wrongState

/-- CLOSE (R71). -/
def execClose (p : Port) (payload : List Byte) (s : State) : Host.Outcome State Fault Refusal :=
  .next (s.transact p 0x26 payload chairs (payload.length = 1) fun t => t.asChair p fun x u =>
    u.withSeat x (byteAt payload 0) fun i => u.whenOpen x (u.closeTaken x i))

/-- CLOSEALL in an open section (R72). -/
def State.closeAllTaken (s : State) (x : Sect) : Taken :=
  let l := s.seatsWhere x fun r => r.isDelegate && r.mic.onFloor
  (s.floorEvent x false (closeAll .closeAll l)).refresh.ok (enc8 l.length)

/-- CLOSEALL (R72). -/
def execCloseAll (p : Port) (payload : List Byte) (s : State) : Host.Outcome State Fault Refusal :=
  .next (s.transact p 0x27 payload chairs (payload.length = 0) fun t => t.asChair p fun x u =>
    u.whenOpen x (u.closeAllTaken x))

/-- PRIORITY on or off in an open section (R76). -/
def State.priorityTaken (s : State) (x : Sect) (on : Bool) : Taken :=
  let s1 := (s.floorEvent x false fun t =>
    if on then t.joinHolders x .console else t.leaveHolders x .console).refresh
  s1.ok (enc8 (s1.sect x).holderCount ++ encFlag (s1.priorityOn x))

/-- PRIORITY (R76). -/
def execPriority (p : Port) (payload : List Byte) (s : State) : Host.Outcome State Fault Refusal :=
  .next (s.transact p 0x2A payload chairs (payload.length = 1) fun t => t.asChair p fun x u =>
    u.withFlag (byteAt payload 0) fun on => u.whenOpen x (u.priorityTaken x on))

/-- The floor part that a FLOOR payload holds, each field in its range (R56). -/
def floorFields? (payload : List Byte) : Option (FloorMode × Bool × Nat × KeyMode) :=
  match floorModeOf? (byteAt payload 0), flagOf? (byteAt payload 1), within? 1 6 (byteAt payload 2),
    keyModeOf? (byteAt payload 3) with
  | some m, some o, some n, some k => some (m, o, n, k)
  | _, _, _, _ => none

/-- A profile image with its floor part replaced. -/
def setFloorPart (m : FloorMode) (o : Bool) (n : Nat) (k : KeyMode) (p : Profile) : Profile :=
  { p with floorMode := m, override := o, limit := n, keyMode := k }

/-- FLOOR in a section: the state first, then the fields, then the limit (R56). -/
def State.floorTaken (s : State) (x : Sect) (payload : List Byte) : Taken :=
  if (s.sect x).state.running then
    match floorFields? payload with
    | none => s.refused .range
    | some (m, o, n, k) =>
      if n < s.delegateCount x then s.refused .limit
      else
        (s.floorEvent x true fun t =>
          t.modSect x fun r => { r with settings := setFloorPart m o n k r.settings }).refresh.ok []
  else s.refused .wrongState

/-- FLOOR (R56). -/
def execFloor (p : Port) (payload : List Byte) (s : State) : Host.Outcome State Fault Refusal :=
  .next (s.transact p 0x2B payload chairs (payload.length = 4) fun t => t.asChair p fun x u =>
    u.floorTaken x payload)

/-! ### Turns (R94, R96) -/

/-- ADDTIME of a seat whose limited turn passes the checks (R96). -/
def State.extendTurn (s : State) (x : Sect) (i : Seat) (seconds : Nat) (t : Turn) : Taken :=
  let t' := addToTurn (s.sect x).settings.warn seconds t
  let s1 := ((s.modSeat i fun r => { r with turn := some t' }).turnNotice i .extended (some seconds)).refresh
  s1.ok (encTurn (some t'))

/-- ADDTIME of a seat of an open section, its checks in the order of R96. -/
def State.addTimeTaken (s : State) (x : Sect) (i : Seat) (seconds : Nat) : Taken :=
  if seconds < 10 ∨ 600 < seconds then s.refused .range
  else
    match (s.seat i).turn with
    | none => s.refused .wrongState
    | some t =>
      if t.budget = 0 then s.refused .wrongState
      else if (s.sect x).settings.expiry = .close ∧ t.remaining = 0 ∧ t.expired then s.refused .tooLate
      else if s.capReached x i then s.refused .capReached
      else s.extendTurn x i seconds t

/-- ADDTIME (R96). -/
def execAddTime (p : Port) (payload : List Byte) (s : State) : Host.Outcome State Fault Refusal :=
  .next (s.transact p 0x2C payload chairs (payload.length = 3) fun t => t.asChair p fun x u =>
    u.withSeat x (byteAt payload 0) fun i => u.whenOpen x (u.addTimeTaken x i (word16At payload 1)))

/-- CLOCK in an open section (R94). -/
def State.clockTaken (s : State) (x : Sect) (hold : Bool) : Taken :=
  (s.modSect x fun r => { r with clockHold := hold }).refresh.ok (encFlag hold)

/-- CLOCK (R94). -/
def execClock (p : Port) (payload : List Byte) (s : State) : Host.Outcome State Fault Refusal :=
  .next (s.transact p 0x2D payload chairs (payload.length = 1) fun t => t.asChair p fun x u =>
    u.withFlag (byteAt payload 0) fun hold => u.whenOpen x (u.clockTaken x hold))

/-! ### The presenter (R137, R138) -/

/-- SHARE of a seat of a section, from the section's state on (R137). -/
def State.shareTaken (s : State) (x : Sect) (i : Seat) : Taken :=
  if (s.sect x).state.running then
    if (s.seat i).presence = .ready then
      match s.ownsSource i with
      | none => s.refused .notFound
      | some n =>
        (s.modSect x fun r => { r with presenter := some (i, .explicit) }).refresh.ok
          (enc8 i.val ++ enc8 n.val ++ encFlag s.present[n])
    else s.refused .wrongState
  else s.refused .wrongState

/-- SHARE (R137): from the MDP for a seat of either section. -/
def execShare (p : Port) (payload : List Byte) (s : State) : Host.Outcome State Fault Refusal :=
  .next (s.transact p 0x2E payload [.cpa, .cpb, .mdp] (payload.length = 1) fun t =>
    if p = .mdp then
      match seatOf? (byteAt payload 0) with
      | none => t.refused .range
      | some i => t.shareTaken (t.sectionOf i) i
    else t.asChair p fun x u => u.withSeat x (byteAt payload 0) fun i => u.shareTaken x i)

/-- A section's EXPLICIT presenter is removed; any other is left (R138). -/
def State.unshare (s : State) (x : Sect) : State :=
  match (s.sect x).presenter with
  | some (_, .explicit) => (s.removePresenter x).refresh
  | some (_, .follow) => s
  | none => s

/-- UNSHARE of a section, from its state on (R138). -/
def State.unshareTaken (s : State) (x : Sect) : Taken :=
  if (s.sect x).state.running then
    let s1 := s.unshare x
    s1.ok (encPresenter (s1.sect x).presenter)
  else s.refused .wrongState

/-- UNSHARE (R138): from a chair port for the section it commands alone. From the lead port of a JOINED table,
section B, MERGED, is refused RANGE as R138 gives for a chair port, and not WRONG_STATE as R23 gives for a command
that names it (DESIGN CHOICE, assumption 44). -/
def execUnshare (p : Port) (payload : List Byte) (s : State) : Host.Outcome State Fault Refusal :=
  .next (s.transact p 0x2F payload [.cpa, .cpb, .mdp] (payload.length = 1) fun t =>
    if p = .mdp then
      match sectOf? (byteAt payload 0) with
      | none => t.refused .range
      | some x => t.unshareTaken x
    else t.asChair p fun x u =>
      if sectOf? (byteAt payload 0) = some x then u.unshareTaken x else u.refused .range)

end Sys2Proof.Machine
end

