-- ==== Sys2Proof/Machine/CalendarCommands.lean ====
section
/-! DEFINITION. The meanings of the scheduling commands, 40h to 49h (spec/09_the_room_calendar.md). -/

set_option autoImplicit false

namespace Sys2Proof.Machine

/-- A command refused NO_TIME while table time is unset, before any check of its own (10.4). -/
def State.withTime (s : State) (f : Nat → Taken) : Taken :=
  match s.minute with
  | none => s.refused .noTime
  | some now => f now

/-- A command that names a booking: an id not in the calendar is refused NOT_FOUND. -/
def State.withBooking (s : State) (id : Nat) (f : Booking → Taken) : Taken :=
  match s.booking id with
  | none => s.refused .notFound
  | some b => f b

/-! ### SETTIME (R153, R154) -/

/-- SETTIME's check of the size of the change: it binds while time is set and a section runs. -/
def State.timeBarred (s : State) (m sec : Nat) : Bool :=
  match s.minute with
  | none => false
  | some m0 => s.anyRunning && tooFar m0 s.second m sec

/-- SETTIME of a minute and a second. -/
def State.setTimeTaken (s : State) (m sec : Nat) : Taken :=
  if 4294000000 < m ∨ 59 < sec then s.refused .range
  else if s.timeBarred m sec then s.refused .wrongState
  else (s.setTime m sec).refresh.ok (enc32 m ++ enc8 sec)

/-- SETTIME (R153). -/
def execSetTime (p : Port) (payload : List Byte) (s : State) : Host.Outcome State Fault Refusal :=
  .next (s.transact p 0x40 payload [.scp] (payload.length = 5) fun t =>
    t.setTimeTaken (word32At payload 0) (byteAt payload 4))

/-! ### BOOK (R161) -/

/-- The interval of a BOOK, or of a MOVE of a PENDING booking, is in range (R161, step 3). -/
def intervalOk (now start stop : Nat) : Bool :=
  start + 5 ≤ stop && stop ≤ start + 1440 && now ≤ start && start ≤ now + 20160 && stop ≤ lastMinute

/-- A scheduled booking that is taken: the walk-ins it bounds, its place in the list, BOOKING ADDED, the
reply, and its start where that is now. -/
def State.takeBook (s : State) (now : Nat) (b : Booking) (start : Nat) (bounded : List Booking) : Taken :=
  let s1 := ((s.boundAll bounded start).addBooking b).bookingNotice [.scp] b .added none none none
  (s1.startAtNow now start b.id bounded).refresh.ok (enc16 b.id)

/-- BOOK from its interval check on. -/
def State.bookInterval (s : State) (now : Nat) (sp : Span) (start stop : Nat) (n : ProfileNo) (lead : Sect)
    (title : Text) : Taken :=
  if intervalOk now start stop then
    let l := s.conflicting none sp (some start) (some stop)
    if s.resolvable now start l then
      if s.bookings.length ≥ 64 then s.refused .full
      else
        s.takeBook now
          { id := s.newId, span := sp, start := some start, stop := some stop, profile := n, lead := lead,
            title := title, roster := [], origin := .scheduled, state := .pending } start l
    else s.refused .conflict
  else s.refused .range

/-- The lead half of a booking: its span for A and B, the given half for JOINED (R155). -/
def leadOf (sp : Span) (half : Sect) : Sect :=
  match sp with
  | .a => .a
  | .b => .b
  | .joined => half

/-- BOOK at a set table time, its checks in the order of R161. -/
def State.bookTaken (s : State) (now : Nat) (payload : List Byte) : Taken :=
  match spanOf? (byteAt payload 0), profileOf? (byteAt payload 9), sectOf? (byteAt payload 10) with
  | some sp, some n, some half =>
    s.bookInterval now sp (word32At payload 1) (word32At payload 5) n (leadOf sp half)
      (takeText 32 (payload.drop 12))
  | _, _, _ => s.refused .range

/-- The length of a BOOK payload agrees with its title's length byte. -/
def bookLengthOk (payload : List Byte) : Bool :=
  12 ≤ payload.length && payload.length = 12 + byteAt payload 11

/-- BOOK (R161). -/
def execBook (p : Port) (payload : List Byte) (s : State) : Host.Outcome State Fault Refusal :=
  .next (s.transact p 0x41 payload [.scp] (bookLengthOk payload) fun t =>
    t.withTime fun now => t.bookTaken now payload)

/-! ### ROSTER and UNROSTER (R158, R159) -/

/-- The seats of a command that a roster does not hold, each counted once. -/
def newSeats (roster es : List RosterEntry) : List Seat :=
  seatList.filter fun i => (es.any fun e => e.seat = i) && !(roster.any fun e => e.seat = i)

/-- An entry put into a roster: in seat order, in place of an entry of the same seat. -/
def putEntry (e : RosterEntry) : List RosterEntry → List RosterEntry
  | [] => [e]
  | f :: rest =>
    if e.seat = f.seat then e :: rest
    else if e.seat.val < f.seat.val then e :: f :: rest
    else f :: putEntry e rest

/-- The entries of a command put into a roster, in payload order. -/
def putEntries (roster es : List RosterEntry) : List RosterEntry :=
  es.foldl (fun acc e => putEntry e acc) roster

/-- The roster length of a booking after a change, and the entries free in the pool. -/
def State.rosterCounts (s : State) (id : Nat) : List Byte :=
  enc8 (match s.booking id with
    | some b => b.roster.length
    | none => 0) ++ enc16 s.rosterFree

/-- ROSTER's entries put into a booking, its roster in the pool (R158, step 3 on). -/
def State.rosterTaken (s : State) (b : Booking) (es : List RosterEntry) : Taken :=
  if s.rosterFree < (newSeats b.roster es).length then s.refused .full
  else
    let s1 := (s.modBooking b.id fun c => { c with roster := putEntries c.roster es }).refresh
    s1.ok (s1.rosterCounts b.id)

/-- Every raw entry taken, or none where one of them is out of range. -/
def rosterEntries? : List RawEntry → Option (List RosterEntry)
  | [] => some []
  | r :: rest =>
    match rosterEntry? r, rosterEntries? rest with
    | some e, some es => some (e :: es)
    | _, _ => none

/-- ROSTER (R158). -/
def execRoster (p : Port) (payload : List Byte) (s : State) : Host.Outcome State Fault Refusal :=
  .next (s.transact p 0x42 payload [.scp] (rosterRaw payload).isSome fun t =>
    t.withBooking (word16At payload 0) fun b =>
      match rosterEntries? ((rosterRaw payload).getD []) with
      | none => t.refused .range
      | some es => t.rosterTaken b es)

/-- A booking's roster replaced by a shorter one, and the answer of UNROSTER. -/
def State.shrinkRoster (s : State) (b : Booking) (roster : List RosterEntry) : Taken :=
  let s1 := (s.modBooking b.id fun c => { c with roster := roster }).refresh
  s1.ok (enc8 (b.roster.length - roster.length) ++ s1.rosterCounts b.id)

/-- UNROSTER (R159): an id alone, or an id and a seat. -/
def execUnroster (p : Port) (payload : List Byte) (s : State) : Host.Outcome State Fault Refusal :=
  .next (s.transact p 0x43 payload [.scp] (payload.length = 2 || payload.length = 3) fun t =>
    t.withBooking (word16At payload 0) fun b =>
      if payload.length = 2 then t.shrinkRoster b []
      else
        match seatOf? (byteAt payload 2) with
        | none => t.refused .range
        | some i =>
          if b.roster.any fun e => e.seat = i then
            t.shrinkRoster b (b.roster.filter fun e => e.seat ≠ i)
          else t.refused .notFound)

/-! ### MOVE (R162) -/

/-- A booking takes a new interval and its place in booking order. -/
def State.relocate (s : State) (b : Booking) : State :=
  { s with bookings := insertBooking b (s.bookings.filter fun c => c.id ≠ b.id) }

/-- MOVE of a PENDING booking to an interval that passes the checks. -/
def State.takeMove (s : State) (now : Nat) (b : Booking) (start stop : Nat) (bounded : List Booking) :
    Taken :=
  if b.start = some start ∧ b.stop = some stop then s.ok []
  else
    let b' := { b with start := some start, stop := some stop }
    let s1 := ((s.boundAll bounded start).relocate b').bookingNotice [.scp] b' .moved none none none
    (s1.startAtNow now start b.id bounded).refresh.ok []

/-- MOVE of a PENDING booking (R162). One that leaves the interval as it is is refused FROZEN or RANGE like any
other before it is answered OK; two sentences of R162 meet there (DESIGN CHOICE, assumption 41). -/
def State.movePending (s : State) (now : Nat) (b : Booking) (start stop : Nat) : Taken :=
  if b.start.getD 0 < now + s.freezeF then s.refused .frozen
  else if intervalOk now start stop then
    let l := s.conflicting (some b.id) b.span (some start) (some stop)
    if s.resolvable now start l then s.takeMove now b start stop l else s.refused .conflict
  else s.refused .range

/-- MOVE of a RUNNING booking changes its end alone (R162). One that leaves the end as it is is refused RANGE like
any other before it is answered OK (DESIGN CHOICE, assumption 41). -/
def State.moveRunning (s : State) (now : Nat) (b : Booking) (start stop : Nat) : Taken :=
  if b.start ≠ some start then s.refused .range
  else if stop < now + 1 ∨ now + 1440 < stop ∨ lastMinute < stop then s.refused .range
  else if (s.conflicting (some b.id) b.span b.start (some stop)).isEmpty then
    if b.stop = some stop then s.ok [] else (s.setEnd b.id stop .move).refresh.ok []
  else s.refused .conflict

/-- MOVE (R162). -/
def execMove (p : Port) (payload : List Byte) (s : State) : Host.Outcome State Fault Refusal :=
  .next (s.transact p 0x44 payload [.scp] (payload.length = 10) fun t =>
    t.withTime fun now => t.withBooking (word16At payload 0) fun b =>
      match b.state with
      | .pending => t.movePending now b (word32At payload 2) (word32At payload 6)
      | .running => t.moveRunning now b (word32At payload 2) (word32At payload 6))

/-! ### CANCEL, FREEZE (R163, R164) -/

/-- CANCEL of a booking at a set table time (R163). -/
def State.cancelTaken (s : State) (now : Nat) (b : Booking) : Taken :=
  match b.state with
  | .running => s.refused .tooLate
  | .pending =>
    if b.start.getD 0 < now + s.freezeF then s.refused .frozen
    else
      ((s.dropBooking b.id).bookingNotice [.scp] b .removed (some .cancelled) none none).refresh.ok []

/-- CANCEL (R163). -/
def execCancel (p : Port) (payload : List Byte) (s : State) : Host.Outcome State Fault Refusal :=
  .next (s.transact p 0x45 payload [.scp] (payload.length = 2) fun t =>
    t.withTime fun now => t.withBooking (word16At payload 0) fun b => t.cancelTaken now b)

/-- FREEZE (R164). -/
def execFreeze (p : Port) (payload : List Byte) (s : State) : Host.Outcome State Fault Refusal :=
  .next (s.transact p 0x46 payload [.scp] (payload.length = 2) fun t =>
    if 240 < byteAt payload 0 ∨ 60 < byteAt payload 1 then t.refused .range
    else
      ({ t with freezeF := byteAt payload 0, guardG := byteAt payload 1 }.writeTable).ok
        (enc8 (byteAt payload 0) ++ enc8 (byteAt payload 1)))

/-! ### LIST, READBOOK (R169) -/

/-- LIST (R169). -/
def execList (p : Port) (payload : List Byte) (s : State) : Host.Outcome State Fault Refusal :=
  .next (s.transact p 0x47 payload [.scp] (payload.length = 1) fun t =>
    t.withTime fun _ =>
      if 63 < byteAt payload 0 then t.refused .range else t.ok (t.listReply (byteAt payload 0)))

/-- READBOOK (R169). -/
def execReadBook (p : Port) (payload : List Byte) (s : State) : Host.Outcome State Fault Refusal :=
  .next (s.transact p 0x48 payload [.scp] (payload.length = 3) fun t =>
    t.withTime fun _ => t.withBooking (word16At payload 0) fun b =>
      if 8 < byteAt payload 2 then t.refused .range
      else if byteAt payload 2 = 0 then t.ok (t.bookReply b)
      else t.ok (rosterReply b (byteAt payload 2)))

/-! ### CLEARTABLE (R171, R185) -/

/-- A running section's session ends with reason CLEARED. -/
def State.clearSection (s : State) (x : Sect) : State :=
  if (s.sect x).state.running then s.endSession x .cleared else s

/-- A section's working settings set to working profile 0 (R35, R185). -/
def revertSettings (p0 : Profile) (r : SectRec) : SectRec := { r with settings := p0, loaded := 0 }

/-- The table cleared: sessions A then B, the booking list, BOOKING CLEARED, working settings and
cumulative speaking seconds. -/
def State.clearTable (s : State) : State :=
  let s1 := (s.clearSection .a).clearSection .b
  let s2 := { s1 with bookings := [] }
  let s3 := s2.notify [.scp]
    (s2.notice none none (.booking .cleared none none none none none none none))
  let p0 := s3.profiles[0]
  let s4 := (s3.modSect .a (revertSettings p0)).modSect .b (revertSettings p0)
  s4.mapSeats fun _ r => { r with cumul := 0 }

/-- CLEARTABLE (R171). -/
def execClearTable (p : Port) (payload : List Byte) (s : State) : Host.Outcome State Fault Refusal :=
  .next (s.transact p 0x49 payload [.scp] (payload.length = 0) fun t =>
    t.clearTable.refresh.ok (enc8 t.bookings.length))

end Sys2Proof.Machine
end

