-- ==== Sys2Proof/Machine/MediaCommands.lean ====
section
/-! DEFINITION. The meanings of the commands of the MDP, 60h to 6Ch (R12, R28, R117 to R120, R140, R149,
R150, R187, R197, R198). -/

set_option autoImplicit false

namespace Sys2Proof.Machine

/-! ### Trims, factors, volume (R118 to R120) -/

/-- The working seat map entry of a seat replaced. -/
def State.setEntry (s : State) (i : Seat) (e : MapEntry) : State := s.modSeat i fun r => { r with map := e }

/-- TRIM (R118). -/
def execTrim (p : Port) (payload : List Byte) (s : State) : Host.Outcome State Fault Refusal :=
  .next (s.transact p 0x60 payload [.mdp] (payload.length = 3) fun t =>
    match seatOf? (byteAt payload 0) with
    | none => t.refused .range
    | some i =>
      (t.setEntry i { (t.seat i).map with trim := word16At payload 1 }).ok
        (enc8 i.val ++ enc16 (word16At payload 1)))

/-- A command of the MDP that names a section: a number other than 0 or 1 is refused RANGE, and section
B while MERGED WRONG_STATE (R23). -/
def State.withSection (s : State) (n : Nat) (f : Sect → Taken) : Taken :=
  match sectOf? n with
  | none => s.refused .range
  | some x => if (s.sect x).state = .merged then s.refused .wrongState else f x

/-- A section's working settings changed by a command. -/
def State.modSettings (s : State) (x : Sect) (f : Profile → Profile) : State :=
  s.modSect x fun r => { r with settings := f r.settings }

/-- A profile image with its neighbour factors replaced. -/
def setFactors (d1 d2 d3 d4 : Nat) (p : Profile) : Profile := { p with d1 := d1, d2 := d2, d3 := d3, d4 := d4 }

/-- NEIGHBOUR (R119). -/
def execNeighbour (p : Port) (payload : List Byte) (s : State) : Host.Outcome State Fault Refusal :=
  .next (s.transact p 0x61 payload [.mdp] (payload.length = 9) fun t =>
    t.withSection (byteAt payload 0) fun x =>
      let d1 := clampGain (word16At payload 1)
      let d2 := clampGain (word16At payload 3)
      let d3 := clampGain (word16At payload 5)
      let d4 := clampGain (word16At payload 7)
      (t.modSettings x (setFactors d1 d2 d3 d4)).ok (enc16 d1 ++ enc16 d2 ++ enc16 d3 ++ enc16 d4))

/-- VOLUME (R120). -/
def execVolume (p : Port) (payload : List Byte) (s : State) : Host.Outcome State Fault Refusal :=
  .next (s.transact p 0x62 payload [.mdp] (payload.length = 3) fun t =>
    t.withSection (byteAt payload 0) fun x =>
      let v := clampGain (word16At payload 1)
      (t.modSettings x fun q => { q with volume := v }).ok (enc16 v))

/-! ### Layouts and screens (R140, R149, R150) -/

/-- The length of a LAYOUT payload agrees with its tile count of 1 to 4. -/
def layoutLengthOk (payload : List Byte) : Bool :=
  1 ≤ byteAt payload 2 && byteAt payload 2 ≤ 4 && payload.length = 3 + 8 * byteAt payload 2

/-- LAYOUT (R140): the checks of range, then the state. -/
def execLayout (p : Port) (payload : List Byte) (s : State) : Host.Outcome State Fault Refusal :=
  .next (s.transact p 0x63 payload [.mdp] (layoutLengthOk payload) fun t =>
    match screenOf? (byteAt payload 1), tilesAt payload (byteAt payload 2) 3 with
    | some n, some l =>
      t.withSection (byteAt payload 0) fun x =>
        (t.modSettings x fun q => { q with layouts := q.layouts.set n l }).refresh.ok (encLayout l)
    | _, _ => t.refused .range)

/-- SCREEN (R149). -/
def execScreen (p : Port) (payload : List Byte) (s : State) : Host.Outcome State Fault Refusal :=
  .next (s.transact p 0x6A payload [.mdp] (payload.length = 1) fun t =>
    match screenOf? (byteAt payload 0) with
    | none => t.refused .range
    | some n => t.ok (t.screenReply n))

/-- The working screen assignment replaced. -/
def State.assignScreens (s : State) (v : Vector Sect 4) : State :=
  { s with screens := Vector.ofFn fun n => { s.screen n with assigned := v[n] } }

/-- The four section codes of a SCREENSECT payload. -/
def assignment? (payload : List Byte) : Option (Vector Sect 4) :=
  match sectOf? (byteAt payload 0), sectOf? (byteAt payload 1), sectOf? (byteAt payload 2),
    sectOf? (byteAt payload 3) with
  | some w, some x, some y, some z => some #v[w, x, y, z]
  | _, _, _, _ => none

/-- SCREENSECT (R150). -/
def execScreenSect (p : Port) (payload : List Byte) (s : State) : Host.Outcome State Fault Refusal :=
  .next (s.transact p 0x6C payload [.mdp] (payload.length = 4) fun t =>
    match assignment? payload with
    | none => t.refused .range
    | some v =>
      (((t.assignScreens v).reassignScreens).writeTable.refresh).ok (v.toList.flatMap fun x => enc8 (sectCode x)))

/-! ### The table (R28) -/

/-- The division change that a SPLIT needs: to the default mode where that differs, or of K while the
table is DIVIDED; otherwise K alone is recorded. -/
def State.applySplit (s : State) (k : Nat) (m : Mode) : State :=
  if s.mode ≠ m ∨ (s.mode = .divided ∧ s.k ≠ k) then s.divisionChange m k else { s with k := k }

/-- SPLIT (R28): fields, the free table, then K, the default mode and any division change. -/
def execSplit (p : Port) (payload : List Byte) (s : State) : Host.Outcome State Fault Refusal :=
  .next (s.transact p 0x64 payload [.mdp] (payload.length = 2) fun t =>
    match within? 4 20 (byteAt payload 0), modeOf? (byteAt payload 1) with
    | some k, some m =>
      if t.tableFree then
        (({ t with defMode := m }.applySplit k m).writeTable.refresh).ok []
      else t.refused .wrongState
    | _, _ => t.refused .range)

/-! ### The seat map and the profiles (R197, R187, R198) -/

/-- The fields of a SEATMAP payload: seat, class, share input and trim. -/
def seatMapFields? (payload : List Byte) : Option (Seat × MapEntry) :=
  match seatOf? (byteAt payload 0), classOf? (byteAt payload 1), shareOf? (byteAt payload 2) with
  | some i, some c, some share => some (i, { cls := c, share := share, trim := word16At payload 3 })
  | _, _, _ => none

/-- SEATMAP raises MISMATCH: the class changes to CHAIR for a seat whose unit kind is DELEGATE_UNIT
(R14). -/
def mismatched (r : SeatRec) (e : MapEntry) : Bool :=
  e.cls = .chair && r.map.cls = .delegate && r.kind = some .delegateUnit

/-- A seat map entry that is taken: MISMATCH, then ownership and the presenters (R197, R134, R136). -/
def State.takeSeatMap (s : State) (i : Seat) (e : MapEntry) : State :=
  let s1 := s.setEntry i e
  let s2 := if mismatched (s.seat i) e then s1.seatNotice i [.mdp] (.seatMismatch .delegateUnit) else s1
  s2.checkPresenters.refresh

/-- SEATMAP (R197). -/
def execSeatMap (p : Port) (payload : List Byte) (s : State) : Host.Outcome State Fault Refusal :=
  .next (s.transact p 0x65 payload [.mdp] (payload.length = 5) fun t =>
    match seatMapFields? payload with
    | none => t.refused .range
    | some (i, e) => (t.takeSeatMap i e).ok (encEntry e))

/-- PROFILE (R187). -/
def execProfile (p : Port) (payload : List Byte) (s : State) : Host.Outcome State Fault Refusal :=
  .next (s.transact p 0x66 payload [.mdp] (profileLengthOk payload) fun t =>
    match profileOf? (byteAt payload 0), profileFields? payload with
    | some n, some q => ({ t with profiles := t.profiles.set n q }).ok (enc8 n.val ++ encProfile q)
    | _, _ => t.refused .range)

/-- A store command that is taken begins its write, and its reply comes at completion; with a write in
progress it is refused BUSY (R198). -/
def State.beginWrite (s : State) (j : WriteJob) : Taken :=
  if s.write.isSome then s.refused .busy else ({ s with write := some j }, .held)

/-- STOREPROF (R198). -/
def execStoreProf (p : Port) (payload : List Byte) (s : State) : Host.Outcome State Fault Refusal :=
  .next (s.transact p 0x67 payload [.mdp] (payload.length = 1) fun t =>
    match profileOf? (byteAt payload 0) with
    | none => t.refused .range
    | some n => t.beginWrite (.profile n t.profiles[n]))

/-- The image of the working seat map. -/
def State.mapImage (s : State) : Vector MapEntry 48 := Vector.ofFn fun i => (s.seat i).map

/-- STOREMAP (R198). -/
def execStoreMap (p : Port) (payload : List Byte) (s : State) : Host.Outcome State Fault Refusal :=
  .next (s.transact p 0x68 payload [.mdp] (payload.length = 0) fun t => t.beginWrite (.map t.mapImage))

/-! ### LEVELS, RESEAT (R117, R12) -/

/-- A section's clip counters set to 0. -/
def clearClips (r : SectRec) : SectRec := { r with busClip := 0, feedClip := 0 }

/-- LEVELS (R117). -/
def execLevels (p : Port) (payload : List Byte) (s : State) : Host.Outcome State Fault Refusal :=
  .next (s.transact p 0x69 payload [.mdp] (payload.length = 0) fun t =>
    ((t.modSect .a clearClips).modSect .b clearClips).ok (t.levelsOf .a ++ t.levelsOf .b))

/-- A seat's bring-up restarts from DETECTED with bring-up count 0 (R12). -/
def State.reseat (s : State) (i : Seat) : State :=
  if (s.seat i).presence = .ready then s.leaveReady i .detected 0 .reseat
  else s.modSeat i fun r => { enter .detected 0 r with fault := none, kind := none }

/-- RESEAT (R12). -/
def execReseat (p : Port) (payload : List Byte) (s : State) : Host.Outcome State Fault Refusal :=
  .next (s.transact p 0x6B payload [.mdp] (payload.length = 1) fun t =>
    match seatOf? (byteAt payload 0) with
    | none => t.refused .range
    | some i => if (t.seat i).presence = .absent then t.refused .wrongState else (t.reseat i).ok [])

end Sys2Proof.Machine
end

