-- ==== Sys2Proof/Machine/Dispatch.lean ====
section
/-! DEFINITION. One arm per command: the direct call of its meaning. -/

namespace Sys2Proof.Machine

def exec (i : Instr) (s : State) : Host.Outcome State Fault Refusal :=
  match i with
  | .hardwareReset => Sys2Proof.Machine.execHardwareReset s
  | .startUpLoadComplete => Sys2Proof.Machine.execStartUpLoadComplete s
  | .visitOpen side => Sys2Proof.Machine.execVisitOpen side s
  | .answerArrival side msg => Sys2Proof.Machine.execAnswerArrival side msg s
  | .missedVisit side => Sys2Proof.Machine.execMissedVisit side s
  | .missCountLimit side => Sys2Proof.Machine.execMissCountLimit side s
  | .poweringTimeout side => Sys2Proof.Machine.execPoweringTimeout side s
  | .audioFrame => Sys2Proof.Machine.execAudioFrame s
  | .rampStep => Sys2Proof.Machine.execRampStep s
  | .fadeComplete seat => Sys2Proof.Machine.execFadeComplete seat s
  | .countEvent sect => Sys2Proof.Machine.execCountEvent sect s
  | .expired seat => Sys2Proof.Machine.execExpired seat s
  | .expiryClose seat => Sys2Proof.Machine.execExpiryClose seat s
  | .graceExpiry sect => Sys2Proof.Machine.execGraceExpiry sect s
  | .idleExpiry sect => Sys2Proof.Machine.execIdleExpiry sect s
  | .secondTick => Sys2Proof.Machine.execSecondTick s
  | .minuteEvent => Sys2Proof.Machine.execMinuteEvent s
  | .sources present => Sys2Proof.Machine.execSources present s
  | .pollMissLimit => Sys2Proof.Machine.execPollMissLimit s
  | .ack screen version => Sys2Proof.Machine.execAck screen version s
  | .ackTimeout screen => Sys2Proof.Machine.execAckTimeout screen s
  | .hello screen => Sys2Proof.Machine.execHello screen s
  | .storeWriteComplete => Sys2Proof.Machine.execStoreWriteComplete s
  | .status read => Sys2Proof.Machine.execStatus read s
  | .fetch port clocked => Sys2Proof.Machine.execFetch port clocked s
  | .framing port clocked => Sys2Proof.Machine.execFraming port clocked s
  | .illegal port code payload => Sys2Proof.Machine.execIllegal port code payload s
  | .readSeat port payload => Sys2Proof.Machine.execReadSeat port payload s
  | .readSect port payload => Sys2Proof.Machine.execReadSect port payload s
  | .readQueue port payload => Sys2Proof.Machine.execReadQueue port payload s
  | .walkIn port payload => Sys2Proof.Machine.execWalkIn port payload s
  | .checkIn port payload => Sys2Proof.Machine.execCheckIn port payload s
  | .endMeeting port payload => Sys2Proof.Machine.execEndMeeting port payload s
  | .extend port payload => Sys2Proof.Machine.execExtend port payload s
  | .grant port payload => Sys2Proof.Machine.execGrant port payload s
  | .deny port payload => Sys2Proof.Machine.execDeny port payload s
  | .close port payload => Sys2Proof.Machine.execClose port payload s
  | .closeAll port payload => Sys2Proof.Machine.execCloseAll port payload s
  | .nextSeat port payload => Sys2Proof.Machine.execNextSeat port payload s
  | .promote port payload => Sys2Proof.Machine.execPromote port payload s
  | .priority port payload => Sys2Proof.Machine.execPriority port payload s
  | .floor port payload => Sys2Proof.Machine.execFloor port payload s
  | .addTime port payload => Sys2Proof.Machine.execAddTime port payload s
  | .clock port payload => Sys2Proof.Machine.execClock port payload s
  | .share port payload => Sys2Proof.Machine.execShare port payload s
  | .unshare port payload => Sys2Proof.Machine.execUnshare port payload s
  | .setTime port payload => Sys2Proof.Machine.execSetTime port payload s
  | .book port payload => Sys2Proof.Machine.execBook port payload s
  | .roster port payload => Sys2Proof.Machine.execRoster port payload s
  | .unroster port payload => Sys2Proof.Machine.execUnroster port payload s
  | .move port payload => Sys2Proof.Machine.execMove port payload s
  | .cancel port payload => Sys2Proof.Machine.execCancel port payload s
  | .freeze port payload => Sys2Proof.Machine.execFreeze port payload s
  | .list port payload => Sys2Proof.Machine.execList port payload s
  | .readBook port payload => Sys2Proof.Machine.execReadBook port payload s
  | .clearTable port payload => Sys2Proof.Machine.execClearTable port payload s
  | .trim port payload => Sys2Proof.Machine.execTrim port payload s
  | .neighbour port payload => Sys2Proof.Machine.execNeighbour port payload s
  | .volume port payload => Sys2Proof.Machine.execVolume port payload s
  | .layout port payload => Sys2Proof.Machine.execLayout port payload s
  | .split port payload => Sys2Proof.Machine.execSplit port payload s
  | .seatMap port payload => Sys2Proof.Machine.execSeatMap port payload s
  | .profile port payload => Sys2Proof.Machine.execProfile port payload s
  | .storeProf port payload => Sys2Proof.Machine.execStoreProf port payload s
  | .storeMap port payload => Sys2Proof.Machine.execStoreMap port payload s
  | .levels port payload => Sys2Proof.Machine.execLevels port payload s
  | .screen port payload => Sys2Proof.Machine.execScreen port payload s
  | .reseat port payload => Sys2Proof.Machine.execReseat port payload s
  | .screenSect port payload => Sys2Proof.Machine.execScreenSect port payload s

end Sys2Proof.Machine
end

