-- ==== Sys2Proof/Machine/Step.lean ====
section
/-! DEFINITION. One step of the part: the command at the front of the queue is taken (assumption 2). -/

set_option autoImplicit false

namespace Sys2Proof.Machine

/-- The part takes the command at the front of its queue, with the rest left waiting; on an empty queue
it idles. -/
def step (s : State) : Host.Outcome State Fault Refusal :=
  match s.pending with
  | [] => .next s
  | c :: rest => exec c { s with pending := rest }

/-- A transaction on a control port has ended: the command it is waits last in the queue (R189). -/
def State.receive (s : State) (p : Port) (t : Clocked) : State :=
  match transaction? p t with
  | none => s
  | some c => { s with pending := s.pending ++ [c] }

/-- The command that a word spells is put at the front of the queue; no row of the table gives bits, so
no word spells one (assumption 1). -/
def State.withFetchWord (s : State) (nbits w : Nat) : State :=
  match decodeTableWord nbits w with
  | none => s
  | some c => { s with pending := c :: s.pending }

end Sys2Proof.Machine
end

