-- ==== Sys2Proof/Safety.lean ====
section
/-! DEFINITION. The words in which statements about the part are written: what a request is, which port
may send it and at which length (Table 12-3), what the port record holds when a request has been accepted
and answered, which parts of the state a command leaves as they were, and the invariants that every step
keeps. -/

set_option autoImplicit false

namespace Sys2Proof.Machine

/-! ### Requests (Table 12-3) -/

/-- The port, the command code and the payload of a command that is a request transaction. -/
def request? : Instr → Option (Port × Byte × List Byte)
  | .hardwareReset => none
  | .startUpLoadComplete => none
  | .visitOpen _ => none
  | .answerArrival _ _ => none
  | .missedVisit _ => none
  | .missCountLimit _ => none
  | .poweringTimeout _ => none
  | .audioFrame => none
  | .rampStep => none
  | .fadeComplete _ => none
  | .countEvent _ => none
  | .expired _ => none
  | .expiryClose _ => none
  | .graceExpiry _ => none
  | .idleExpiry _ => none
  | .secondTick => none
  | .minuteEvent => none
  | .sources _ => none
  | .pollMissLimit => none
  | .ack _ _ => none
  | .ackTimeout _ => none
  | .hello _ => none
  | .storeWriteComplete => none
  | .status _ => none
  | .fetch _ _ => none
  | .framing _ _ => none
  | .illegal p code payload => some (p, code, payload)
  | .readSeat p payload => some (p, 0x10, payload)
  | .readSect p payload => some (p, 0x11, payload)
  | .readQueue p payload => some (p, 0x12, payload)
  | .walkIn p payload => some (p, 0x20, payload)
  | .checkIn p payload => some (p, 0x21, payload)
  | .endMeeting p payload => some (p, 0x22, payload)
  | .extend p payload => some (p, 0x23, payload)
  | .grant p payload => some (p, 0x24, payload)
  | .deny p payload => some (p, 0x25, payload)
  | .close p payload => some (p, 0x26, payload)
  | .closeAll p payload => some (p, 0x27, payload)
  | .nextSeat p payload => some (p, 0x28, payload)
  | .promote p payload => some (p, 0x29, payload)
  | .priority p payload => some (p, 0x2A, payload)
  | .floor p payload => some (p, 0x2B, payload)
  | .addTime p payload => some (p, 0x2C, payload)
  | .clock p payload => some (p, 0x2D, payload)
  | .share p payload => some (p, 0x2E, payload)
  | .unshare p payload => some (p, 0x2F, payload)
  | .setTime p payload => some (p, 0x40, payload)
  | .book p payload => some (p, 0x41, payload)
  | .roster p payload => some (p, 0x42, payload)
  | .unroster p payload => some (p, 0x43, payload)
  | .move p payload => some (p, 0x44, payload)
  | .cancel p payload => some (p, 0x45, payload)
  | .freeze p payload => some (p, 0x46, payload)
  | .list p payload => some (p, 0x47, payload)
  | .readBook p payload => some (p, 0x48, payload)
  | .clearTable p payload => some (p, 0x49, payload)
  | .trim p payload => some (p, 0x60, payload)
  | .neighbour p payload => some (p, 0x61, payload)
  | .volume p payload => some (p, 0x62, payload)
  | .layout p payload => some (p, 0x63, payload)
  | .split p payload => some (p, 0x64, payload)
  | .seatMap p payload => some (p, 0x65, payload)
  | .profile p payload => some (p, 0x66, payload)
  | .storeProf p payload => some (p, 0x67, payload)
  | .storeMap p payload => some (p, 0x68, payload)
  | .levels p payload => some (p, 0x69, payload)
  | .screen p payload => some (p, 0x6A, payload)
  | .reseat p payload => some (p, 0x6B, payload)
  | .screenSect p payload => some (p, 0x6C, payload)

/-- The ports that may send a request (Table 12-3). A code that is not in the table is refused ILLEGAL at
every port. A command that is no request has none. -/
def senders : Instr → List Port
  | .hardwareReset => []
  | .startUpLoadComplete => []
  | .visitOpen _ => []
  | .answerArrival _ _ => []
  | .missedVisit _ => []
  | .missCountLimit _ => []
  | .poweringTimeout _ => []
  | .audioFrame => []
  | .rampStep => []
  | .fadeComplete _ => []
  | .countEvent _ => []
  | .expired _ => []
  | .expiryClose _ => []
  | .graceExpiry _ => []
  | .idleExpiry _ => []
  | .secondTick => []
  | .minuteEvent => []
  | .sources _ => []
  | .pollMissLimit => []
  | .ack _ _ => []
  | .ackTimeout _ => []
  | .hello _ => []
  | .storeWriteComplete => []
  | .status _ => []
  | .fetch _ _ => []
  | .framing _ _ => []
  | .illegal _ _ _ => [.cpa, .cpb, .scp, .mdp]
  | .readSeat _ _ => [.cpa, .cpb, .scp, .mdp]
  | .readSect _ _ => [.cpa, .cpb, .scp, .mdp]
  | .readQueue _ _ => [.cpa, .cpb, .scp, .mdp]
  | .walkIn _ _ => [.cpa, .cpb]
  | .checkIn _ _ => [.cpa, .cpb, .scp]
  | .endMeeting _ _ => [.cpa, .cpb]
  | .extend _ _ => [.cpa, .cpb]
  | .grant _ _ => [.cpa, .cpb]
  | .deny _ _ => [.cpa, .cpb]
  | .close _ _ => [.cpa, .cpb]
  | .closeAll _ _ => [.cpa, .cpb]
  | .nextSeat _ _ => [.cpa, .cpb]
  | .promote _ _ => [.cpa, .cpb]
  | .priority _ _ => [.cpa, .cpb]
  | .floor _ _ => [.cpa, .cpb]
  | .addTime _ _ => [.cpa, .cpb]
  | .clock _ _ => [.cpa, .cpb]
  | .share _ _ => [.cpa, .cpb, .mdp]
  | .unshare _ _ => [.cpa, .cpb, .mdp]
  | .setTime _ _ => [.scp]
  | .book _ _ => [.scp]
  | .roster _ _ => [.scp]
  | .unroster _ _ => [.scp]
  | .move _ _ => [.scp]
  | .cancel _ _ => [.scp]
  | .freeze _ _ => [.scp]
  | .list _ _ => [.scp]
  | .readBook _ _ => [.scp]
  | .clearTable _ _ => [.scp]
  | .trim _ _ => [.mdp]
  | .neighbour _ _ => [.mdp]
  | .volume _ _ => [.mdp]
  | .layout _ _ => [.mdp]
  | .split _ _ => [.mdp]
  | .seatMap _ _ => [.mdp]
  | .profile _ _ => [.mdp]
  | .storeProf _ _ => [.mdp]
  | .storeMap _ _ => [.mdp]
  | .levels _ _ => [.mdp]
  | .screen _ _ => [.mdp]
  | .reseat _ _ => [.mdp]
  | .screenSect _ _ => [.mdp]

/-- The payload length of a request is the one its rule gives, as a count of bytes or by its own count and
length fields. -/
def lengthFits : Instr → Bool
  | .hardwareReset => true
  | .startUpLoadComplete => true
  | .visitOpen _ => true
  | .answerArrival _ _ => true
  | .missedVisit _ => true
  | .missCountLimit _ => true
  | .poweringTimeout _ => true
  | .audioFrame => true
  | .rampStep => true
  | .fadeComplete _ => true
  | .countEvent _ => true
  | .expired _ => true
  | .expiryClose _ => true
  | .graceExpiry _ => true
  | .idleExpiry _ => true
  | .secondTick => true
  | .minuteEvent => true
  | .sources _ => true
  | .pollMissLimit => true
  | .ack _ _ => true
  | .ackTimeout _ => true
  | .hello _ => true
  | .storeWriteComplete => true
  | .status _ => true
  | .fetch _ _ => true
  | .framing _ _ => true
  | .illegal _ _ _ => true
  | .readSeat _ payload => payload.length = 1
  | .readSect _ payload => payload.length = 1
  | .readQueue _ payload => payload.length = 1
  | .walkIn _ payload => payload.length = 4
  | .checkIn p payload => if p = .scp then payload.length = 1 else payload.length = 0
  | .endMeeting _ payload => payload.length = 0
  | .extend _ payload => payload.length = 1
  | .grant _ payload => payload.length = 1
  | .deny _ payload => payload.length = 1
  | .close _ payload => payload.length = 1
  | .closeAll _ payload => payload.length = 0
  | .nextSeat _ payload => payload.length = 0
  | .promote _ payload => payload.length = 1
  | .priority _ payload => payload.length = 1
  | .floor _ payload => payload.length = 4
  | .addTime _ payload => payload.length = 3
  | .clock _ payload => payload.length = 1
  | .share _ payload => payload.length = 1
  | .unshare _ payload => payload.length = 1
  | .setTime _ payload => payload.length = 5
  | .book _ payload => 12 ≤ payload.length ∧ payload.length = 12 + byteAt payload 11
  | .roster _ payload => (rosterRaw payload).isSome
  | .unroster _ payload => payload.length = 2 ∨ payload.length = 3
  | .move _ payload => payload.length = 10
  | .cancel _ payload => payload.length = 2
  | .freeze _ payload => payload.length = 2
  | .list _ payload => payload.length = 1
  | .readBook _ payload => payload.length = 3
  | .clearTable _ payload => payload.length = 0
  | .trim _ payload => payload.length = 3
  | .neighbour _ payload => payload.length = 9
  | .volume _ payload => payload.length = 3
  | .layout _ payload => 1 ≤ byteAt payload 2 ∧ byteAt payload 2 ≤ 4 ∧ payload.length = 3 + 8 * byteAt payload 2
  | .split _ payload => payload.length = 2
  | .seatMap _ payload => payload.length = 5
  | .profile _ payload => profileLengthOk payload
  | .storeProf _ payload => payload.length = 1
  | .storeMap _ payload => payload.length = 0
  | .levels _ payload => payload.length = 0
  | .screen _ payload => payload.length = 1
  | .reseat _ payload => payload.length = 1
  | .screenSect _ payload => payload.length = 4

/-- A request that the port block's checks would let through: the port may send it, and its payload has the
length its rule gives. -/
def requestFits (c : Instr) (p : Port) : Prop := p ∈ senders c ∧ lengthFits c = true

/-- A chair command: codes 20h to 2Fh (Table 12-3). -/
def chairCommand (c : Instr) : Bool :=
  match request? c with
  | none => false
  | some (_, code, _) => 0x20 ≤ code.toNat && code.toNat ≤ 0x2F

/-- A chair command whose meaning from a chair port begins with the lead check of R32 alone: every chair
command but WALKIN. -/
def leadOnly (c : Instr) : Bool :=
  match request? c with
  | none => false
  | some (_, code, _) => 0x21 ≤ code.toNat && code.toNat ≤ 0x2F

/-! ### A port while a request is accepted and answered (R189 to R191) -/

/-- The port takes requests: the start-up load is over and no request is in hand. -/
def State.takesFrom (s : State) (p : Port) : Prop := s.starting = false ∧ (s.port p).busy = false

/-- The port's record at a request of `n` payload bytes that it accepts: the status byte and n + 1 bytes of
00h shifted out, the flags that byte showed cleared, an unfetched reply dropped with REPLY_LOST, REQ_BUSY
set. -/
def acceptedRecord (starting : Bool) (n : Nat) (r : PortRec) : PortRec :=
  { busy := true, noticeLost := false, framing := false, overrun := false, replyLost := r.reply.isSome,
    reply := none, notices := r.notices, out := statusByte starting r :: List.replicate (n + 1) 0 }

/-- The state with a request of `n` payload bytes accepted at a port. -/
def State.accepted (s : State) (p : Port) (n : Nat) : State :=
  s.setPort p (acceptedRecord s.starting n (s.port p))

/-- The port's record with an answer placed in its reply slot and REQ_BUSY clear. -/
def repliedRecord (code : Byte) (rc : ReplyCode) (payload : List Byte) (r : PortRec) : PortRec :=
  { r with busy := false, reply := some ⟨code, rc, payload⟩ }

/-- A request of `n` payload bytes accepted and answered, with nothing else changed. -/
def State.answers (s : State) (p : Port) (code : Byte) (n : Nat) (rc : ReplyCode) (payload : List Byte) :
    State :=
  s.setPort p (repliedRecord code rc payload (acceptedRecord s.starting n (s.port p)))

/-! ### Frames -/

/-- What no event of the floor, the turns, the queue or the presenter writes. -/
structure SameBase (s t : State) : Prop where
  pending : t.pending = s.pending
  starting : t.starting = s.starting
  north : t.north = s.north
  south : t.south = s.south
  mode : t.mode = s.mode
  k : t.k = s.k
  defMode : t.defMode = s.defMode
  lead : t.lead = s.lead
  minute : t.minute = s.minute
  second : t.second = s.second
  lastId : t.lastId = s.lastId
  freezeF : t.freezeF = s.freezeF
  guardG : t.guardG = s.guardG
  place : t.place = s.place
  steps : t.steps = s.steps
  out1 : t.out1 = s.out1
  out2 : t.out2 = s.out2
  present : t.present = s.present
  pollMiss : t.pollMiss = s.pollMiss
  polled : t.polled = s.polled
  profiles : t.profiles = s.profiles
  stored : t.stored = s.stored
  write : t.write = s.write
  tablePending : t.tablePending = s.tablePending

/-- The parts of a seat record that the seat ring, the audio and the seat map own. -/
structure SameUnit (r r' : SeatRec) : Prop where
  presence : r'.presence = r.presence
  bringUp : r'.bringUp = r.bringUp
  miss : r'.miss = r.miss
  kind : r'.kind = r.kind
  fault : r'.fault = r.fault
  ackRing : r'.ackRing = r.ackRing
  ackPlate : r'.ackPlate = r.ackPlate
  expectSeq : r'.expectSeq = r.expectSeq
  map : r'.map = r.map
  micNow : r'.micNow = r.micNow
  micNext : r'.micNext = r.micNext
  feedNow : r'.feedNow = r.feedNow
  feedLast : r'.feedLast = r.feedLast

/-- The parts of a seat record that the floor controller, the turn timer unit and the session own. -/
structure SameFloor (r r' : SeatRec) : Prop where
  part : r'.part = r.part
  mic : r'.mic = r.mic
  ramp : r'.ramp = r.ramp
  slot : r'.slot = r.slot
  stamp : r'.stamp = r.stamp
  byPriority : r'.byPriority = r.byPriority
  fadeReport : r'.fadeReport = r.fadeReport
  turn : r'.turn = r.turn
  cumul : r'.cumul = r.cumul

/-- A port to which at most notices have come: its queue has grown at its end, and at most NOTICE_LOST has
been set. -/
structure NoticesOnly (r r' : PortRec) : Prop where
  busy : r'.busy = r.busy
  framing : r'.framing = r.framing
  overrun : r'.overrun = r.overrun
  replyLost : r'.replyLost = r.replyLost
  reply : r'.reply = r.reply
  out : r'.out = r.out
  notices : r.notices <+: r'.notices
  noticeLost : r.noticeLost = true → r'.noticeLost = true

/-- A screen record whose assignment and link state stand as they were. -/
structure SameLink (r r' : ScreenRec) : Prop where
  assigned : r'.assigned = r.assigned
  eff : r'.eff = r.eff
  link : r'.link = r.link

/-- A seat record with what it shows left out. -/
def SeatRec.bare (r : SeatRec) : SeatRec :=
  { r with ring := ⟨.dark, 0, 0, 0, 0⟩, ringVer := 0, plate := ⟨[], []⟩, plateVer := 0 }

/-- A screen record with what it shows, and the update that carries it, left out. -/
def ScreenRec.bare (r : ScreenRec) : ScreenRec :=
  { r with dirty := false, version := none, inFlight := none, ackTimer := none, layout := [], sent := none }

/-- The state with what seats and screens show left out: two states with the same `bare` differ at most in
the LED ring and nameplate records with their versions, and in the screens' resolved layouts with their
updates. -/
def State.bare (s : State) : State :=
  { s with seats := Vector.ofFn fun i => (s.seat i).bare,
           screens := Vector.ofFn fun n => (s.screen n).bare }

/-- What an event at the floor of section x may change at most: the floor parts of the seats of x, the
record of x, the presenter of the other section, the booking that x runs, what seats and screens show, and
notices at the ports. -/
structure FloorFrame (x : Sect) (s t : State) : Prop where
  base : SameBase s t
  unit : ∀ i, SameUnit (s.seat i) (t.seat i)
  others : ∀ i, s.sectionOf i ≠ x → SameFloor (s.seat i) (t.seat i)
  cumul : ∀ i, (t.seat i).cumul = (s.seat i).cumul
  otherSect : ∀ y, y ≠ x → { t.sect y with presenter := none } = { s.sect y with presenter := none }
  bookings : ∀ b, b ∈ t.bookings → b ∈ s.bookings
  kept : ∀ b, b ∈ s.bookings → (s.sect x).booking ≠ some b.id → b ∈ t.bookings
  screens : ∀ n, SameLink (s.screen n) (t.screen n)

/-- A request of `n` payload bytes from port p has been accepted and answered between two states: p holds the
answer, and p and the other ports have gained at most notices. -/
structure AnsweredAt (s t : State) (p : Port) (code : Byte) (n : Nat) (rc : ReplyCode) (payload : List Byte) :
    Prop where
  busy : (t.port p).busy = false
  reply : (t.port p).reply = some ⟨code, rc, payload⟩
  replyLost : (t.port p).replyLost = (s.port p).reply.isSome
  framing : (t.port p).framing = false
  overrun : (t.port p).overrun = false
  out : (t.port p).out = statusByte s.starting (s.port p) :: List.replicate (n + 1) 0
  notices : (s.port p).notices <+: (t.port p).notices
  others : ∀ q, q ≠ p → NoticesOnly (s.port q) (t.port q)

/-- A seat has left READY by loss, to a presence state with a bring-up count: its unit kind and acknowledged
versions are gone (R10, R11, R12), its mic is closed at once with no slot, stamp, flag or turn, and it stands in
neither the queue nor the holder set of its section (R80). -/
structure SeatLeft (s t : State) (i : Seat) (into : Presence) (bring : Nat) : Prop where
  presence : (t.seat i).presence = into
  bringUp : (t.seat i).bringUp = bring
  miss : (t.seat i).miss = 0
  kind : (t.seat i).kind = none
  ackRing : (t.seat i).ackRing = none
  ackPlate : (t.seat i).ackPlate = none
  mic : (t.seat i).mic = .closed
  ramp : (t.seat i).ramp = 0
  slot : (t.seat i).slot = none
  stamp : (t.seat i).stamp = none
  byPriority : (t.seat i).byPriority = false
  turn : (t.seat i).turn = none
  queue : t.queueEntry (s.sectionOf i) i = none
  holders : i ∉ (t.sect (s.sectionOf i)).holders
  otherUnits : ∀ j, j ≠ i → SameUnit (s.seat j) (t.seat j)

/-- The session of section x has ended between two states (R185): its floor is closed (R81), its record holds
its free values (R35), its seats have lost their session parts, and its booking has left the calendar
(R168). -/
structure SessionEnded (x : Sect) (s t : State) : Prop where
  state : (t.sect x).state = .free
  booking : (t.sect x).booking = none
  settings : (t.sect x).settings = s.profiles[0]
  loaded : (t.sect x).loaded = 0
  chairs : (t.sect x).chairs = []
  holders : (t.sect x).holders = []
  console : (t.sect x).console = false
  clockHold : (t.sect x).clockHold = false
  queue : (t.sect x).queue = []
  presenter : (t.sect x).presenter = none
  grace : (t.sect x).grace = .stopped
  idle : (t.sect x).idle = .stopped
  stampCtr : (t.sect x).stampCtr = (s.sect x).stampCtr
  reqCtr : (t.sect x).reqCtr = (s.sect x).reqCtr
  parts : ∀ i, s.sectionOf i = x → (t.seat i).part = none
  pending : ∀ i, s.sectionOf i = x → (s.seat i).mic = .pending → (t.seat i).mic = .closed
  speaking : ∀ i, s.sectionOf i = x → (s.seat i).mic = .active ∨ (s.seat i).mic = .suspended →
    (t.seat i).mic = .closing ∧ (t.seat i).slot = (s.seat i).slot ∧ (t.seat i).ramp = (s.seat i).ramp
  quiet : ∀ i, s.sectionOf i = x → (t.seat i).mic.onFloor = false ∧
    ((s.seat i).mic.onFloor = true → (t.seat i).stamp = none ∧ (t.seat i).turn = none)
  bookings : ∀ b, s.runningBooking x = some b → t.bookings = s.bookings.filter fun c => c.id ≠ b.id
  frame : FloorFrame x s t

/-- A seat of section x has been granted between two states (R62, R63): it takes the section's stamp; from CLOSED it
takes the lowest free slot and becomes ACTIVE with ramp level 0, or PENDING where no slot is free; from CLOSING it
becomes ACTIVE with the slot and ramp it has; an acting delegate that becomes ACTIVE starts a turn of the full
budget (R87); and it stands in the section's queue no more. -/
structure Granted (x : Sect) (i : Seat) (s t : State) : Prop where
  queue : t.queueEntry x i = none
  stamp : (t.seat i).stamp = some (s.sect x).stampCtr
  counter : (t.sect x).stampCtr = if (s.sect x).stampCtr < 65534 then (s.sect x).stampCtr + 1 else 65534
  takes : ∀ k, (s.seat i).mic = .closed → s.freeSlot x = some k →
    (t.seat i).mic = .active ∧ (t.seat i).slot = some k ∧ (t.seat i).ramp = 0
  waits : (s.seat i).mic = .closed → s.freeSlot x = none →
    (t.seat i).mic = .pending ∧ (t.seat i).slot = (s.seat i).slot
  again : (s.seat i).mic = .closing →
    (t.seat i).mic = .active ∧ (t.seat i).slot = (s.seat i).slot ∧ (t.seat i).ramp = (s.seat i).ramp
  turn : (s.seat i).isDelegate = true → (t.seat i).mic = .active →
    (t.seat i).turn = some (startTurn ((s.sect x).settings.budget * 10) (s.sect x).settings.warn)

/-- A seat on the floor has been closed between two states (R69, R95): a PENDING mic is CLOSED, an ACTIVE or
SUSPENDED one CLOSING, with its slot and ramp; stamp, opened-by-priority flag and turn are gone. -/
structure ClosedSeat (i : Seat) (s t : State) : Prop where
  mic : (t.seat i).mic = if (s.seat i).mic = .pending then .closed else .closing
  slot : (t.seat i).slot = (s.seat i).slot
  ramp : (t.seat i).ramp = (s.seat i).ramp
  stamp : (t.seat i).stamp = none
  byPriority : (t.seat i).byPriority = false
  turn : (t.seat i).turn = none

/-- A PENDING seat of a section that the slot arbiter may serve: an acting chair, or, while priority is off, an
acting delegate (R67). -/
def State.eligible (s : State) (x : Sect) (i : Seat) : Prop :=
  s.sectionOf i = x ∧ (s.seat i).mic = .pending ∧
    ((s.seat i).isChair = true ∨ s.priorityOn x = false ∧ (s.seat i).isDelegate = true)

/-! ### Notices (R58, R83, R170, R188) -/

/-- The state with notices queued, first to last, each at the ports it is for (R193). -/
def State.tell (s : State) (l : List (List Port × Notice)) : State := l.foldl (fun s e => s.notify e.1 e.2) s

/-- Between two states the ports have been sent these notices, in this order, and no others. -/
def Tells (s t : State) (l : List (List Port × Notice)) : Prop :=
  ∀ q, (t.port q).notices = ((s.tell l).port q).notices ∧
    (t.port q).noticeLost = ((s.tell l).port q).noticeLost

/-- A FLOOR notice of a seat, with its routing: the chair ports of the section and the MDP (R83). -/
def State.floorTo (s : State) (x : Sect) (i : Seat) (c : FloorChange) (why : FloorReason) (before after : Mic)
    (slot stamp : Option Nat) (count : Nat) : List Port × Notice :=
  (s.chairPorts x ++ [.mdp],
   s.notice (some x) (some i)
     (.floor c why before after slot stamp ((s.seat i).part.map fun p => p.role) count))

/-- A QUEUE notice, with its routing: the chair ports of the section (R58). -/
def State.queueTo (s : State) (x : Sect) (seat : Option Seat) (c : QueueChange) (why : QueueReason)
    (cause : Option RefusalCause) (e : Option QEntry) (place : Option Nat) (length : Nat) : List Port × Notice :=
  (s.chairPorts x,
   s.notice (some x) seat (.queue c why cause (e.map fun q => q.cls) (e.map fun q => q.stamp) place length))

/-- A SESSION notice, with its routing: the chair ports of the section, the SCP and the MDP (R188). -/
def State.sessionTo (s : State) (x : Sect) (before after : SectState) (why : SessionReason)
    (source : Option CheckInSource) (seat : Option Seat) (b : Option Booking) (n : ProfileNo) :
    List Port × Notice :=
  (s.chairPorts x ++ [.scp, .mdp],
   s.notice (some x) seat
     (.session before after why source (b.map fun k => k.id) (b.map fun k => k.span) (b.bind fun k => k.stop) n
       s.mode s.lead))

/-- The place of a seat in a queue, counted from 1 at the head (R48). -/
def State.placeOf (s : State) (x : Sect) (i : Seat) : Nat :=
  ((s.sect x).queue.takeWhile fun e => e.seat ≠ i).length + 1

/-- What the removal of a seat's queue entry tells: QUEUE REMOVED with the reason, the entry as it stood, its place
and the length after it; nothing for a seat with no entry (R49, R58). -/
def State.removalTold (s : State) (x : Sect) (i : Seat) (why : QueueReason) : List (List Port × Notice) :=
  match s.queueEntry x i with
  | none => []
  | some e =>
    [s.queueTo x (some i) .removed why none (some e) (some (s.placeOf x i))
      ((s.sect x).queue.filter fun f => f.seat ≠ i).length]

/-- What a refusal tells: QUEUE NONE, reason REFUSED, with the cause and the entry the seat may have (R45, R58). -/
def State.refusalTold (s : State) (x : Sect) (i : Seat) (cause : RefusalCause) : List (List Port × Notice) :=
  let e := s.queueEntry x i
  [s.queueTo x (some i) .none .refused (some cause) e (e.map fun _ => s.placeOf x i) (s.sect x).queue.length]

/-- What a grant of a CLOSED or CLOSING mic tells, with n delegates on the floor before it: FLOOR OPENED with the
slot it takes or has, or FLOOR PENDING where a CLOSED one finds no slot, and TURN WARNING for a delegate whose turn
starts inside its warning time (R61, R62, R63, R83, R87). -/
def State.grantTold (s : State) (x : Sect) (i : Seat) (why : FloorReason) (n : Nat) : List (List Port × Notice) :=
  let r := s.seat i
  let g := s.sect x
  let count := if r.isDelegate then n + 1 else n
  let turn := startTurn (g.settings.budget * 10) g.settings.warn
  let warns : List (List Port × Notice) :=
    if r.isDelegate && turn.warned then
      [(s.chairPorts x, s.notice (some x) (some i)
        (.turn .warning (some turn.budget) (some turn.remaining) true turn.expired none r.cumul g.clockHold))]
    else []
  if r.mic = .closing then s.floorTo x i .opened why .closing .active r.slot (some g.stampCtr) count :: warns
  else
    match s.freeSlot x with
    | some k => s.floorTo x i .opened why .closed .active (some k) (some g.stampCtr) count :: warns
    | none => [s.floorTo x i .pending why .closed .pending r.slot (some g.stampCtr) count]

/-- What closing the seats of a list in its order tells, with n delegates on the floor before it: FLOOR CLOSED for
each, with the mic state after, no stamp and the delegate count then left (R69, R83). -/
def State.closedTold (s : State) (x : Sect) (why : FloorReason) : Nat → List Seat → List (List Port × Notice)
  | _, [] => []
  | n, i :: rest =>
    let r := s.seat i
    let left := if r.isDelegate then n - 1 else n
    s.floorTo x i .closed why r.mic (if r.mic = .pending then .closed else .closing) r.slot none left ::
      s.closedTold x why left rest

/-- What priority tells as it comes on: FLOOR SUSPENDED for each ACTIVE acting delegate, ascending (R77, R83). -/
def State.suspendedTold (s : State) (x : Sect) : List (List Port × Notice) :=
  (s.seatsWhere x fun r => r.isDelegate && r.mic = .active).map fun i =>
    s.floorTo x i .suspended .priority .active .suspended (s.seat i).slot (s.seat i).stamp (s.delegateCount x)

/-- What priority tells as it goes off under MUTE: FLOOR RESUMED for each SUSPENDED acting delegate, ascending
(R79, R83). -/
def State.resumedTold (s : State) (x : Sect) : List (List Port × Notice) :=
  (s.seatsWhere x fun r => r.isDelegate && r.mic = .suspended).map fun i =>
    s.floorTo x i .resumed .priorityEnd .suspended .active (s.seat i).slot (s.seat i).stamp (s.delegateCount x)

/-- What the end of section x's session tells, in the order of R185: the closes of its floor and QUEUE CLEARED
(R81), its SESSION notice with the reason and the booking that ended, and, but at CLEARTABLE, BOOKING REMOVED with
the end reason (R168, R170). -/
def State.endTold (s : State) (x : Sect) (why : EndReason) (reason : SessionReason) :
    List (List Port × Notice) :=
  s.closedTold x .ended (s.delegateCount x) (s.seatsWhere x fun r => r.mic.onFloor) ++
  [s.queueTo x none .cleared .ended none none none 0,
   s.sessionTo x (s.sect x).state .free reason none none (s.runningBooking x) 0] ++
  match s.runningBooking x with
  | none => []
  | some b =>
    if why = .cleared then []
    else
      [([.scp], s.notice (spanHeader (some b.span)) none
        (.booking .removed (some b.id) (some b.span) b.start b.stop (some .ended) (some why) none))]

/-- What the start of a booking tells on a free table: SESSION of reason MODE for section B where the table mode
changes, and the SESSION notice of the section that starts, with the mode and lead port as they then stand (R26,
R27, R173, R188). -/
def State.startTold (s : State) (b : Booking) (after : SectState) (why : SessionReason) :
    List (List Port × Notice) :=
  let x := spanSection b.span
  let changes : Bool := s.mode ≠ spanMode b.span
  let s' : State :=
    match b.span with
    | .joined => { s with mode := .joined, lead := b.lead }
    | .a | .b => { s with mode := .divided }
  let before : SectState :=
    match b.span with
    | .a | .joined => s.secA.state
    | .b => if changes then .free else s.secB.state
  (if changes then
    [s'.sessionTo .b s.secB.state
      (match b.span with
        | .joined => .merged
        | .a | .b => .free) .mode none none none 0]
  else []) ++
  [s'.sessionTo x before after why none none (some b) b.profile]

/-- What a new end minute of section x's running booking tells: BOOKING END_CHANGED at the SCP and the chair ports
of the section, and, where the section's state changes, its SESSION notice of reason END_CHANGED (R170, R179). -/
def State.endChangedTold (s : State) (x : Sect) (b : Booking) (e : Nat) (why : BookingReason) (after : SectState) :
    List (List Port × Notice) :=
  let b' := { b with stop := some e }
  (.scp :: s.chairPorts x, s.notice (spanHeader (some b.span)) none
    (.booking .endChanged (some b.id) (some b.span) b.start (some e) (some why) none b.stop)) ::
  if (s.sect x).state = after then []
  else [s.sessionTo x (s.sect x).state after .endChanged none none (some b') (s.sect x).loaded]

/-- No free slot waits beside an eligible PENDING seat of a section (R67). -/
def State.settled (s : State) (x : Sect) : Prop := s.freeSlot x = none ∨ ∀ j, ¬ s.eligible x j

/-! ### Key events at a seat -/

/-- The first sequence number and the key event of READY content that carries just one. -/
def oneKey : UpContent → Option (Nat × KeyEvent)
  | .ready firstSeq [e] _ _ _ => some (firstSeq, e)
  | .ready _ [] _ _ _ => none
  | .ready _ (_ :: _ :: _) _ _ _ => none
  | .bare => none
  | .unitKind _ => none
  | .configAck => none

/-- The open visit of a ring is answered by a READY seat, and the answer carries one key event, the one whose
number the controller expects (R3, R17). -/
structure KeyArrives (d : Side) (pos : Fin 24) (m : UpMsg) (e : KeyEvent) (s : State) : Prop where
  visit : (s.ring d).visit = some pos
  check : m.checkOk = true
  length : m.lengthOk = true
  position : m.position = pos.val
  configured : m.configured = true
  ready : (s.seat (seatAt d pos)).presence = .ready
  number : (s.seat (seatAt d pos)).expectSeq < 256
  content : oneKey m.content = some ((s.seat (seatAt d pos)).expectSeq, e)

/-- The state with such an answer taken, but for what its key event does: the visit over, the miss count 0, the
reported versions and the microphone block stored, and the event counted (R16, R17, R19). -/
def State.heard (s : State) (d : Side) (pos : Fin 24) (m : UpMsg) : State :=
  match m.content with
  | .ready firstSeq _ ackRing ackPlate mic =>
    (s.setRing d { s.ring d with visit := none }).modSeat (seatAt d pos) fun r =>
      { r with miss := 0, ackRing := ackRing, ackPlate := ackPlate, micNext := mic,
               expectSeq := (firstSeq + 1) % 256 }
  | .bare => s
  | .unitKind _ => s
  | .configAck => s

/-- An ACTIVE acting delegate of a section (R44, R74). -/
def State.speaksAsDelegate (s : State) (x : Sect) (i : Seat) : Prop :=
  s.sectionOf i = x ∧ (s.seat i).mic = .active ∧ (s.seat i).isDelegate = true

/-! ### Sessions and the calendar -/

/-- A section runs one booking of the list: its own, RUNNING, of a span that runs there, and no other RUNNING
booking or running section has to do with it (R155, R172). -/
structure RunsOn (x : Sect) (b : Booking) (s : State) : Prop where
  own : s.runningBooking x = some b
  running : b.state = .running
  span : spanSection b.span = x
  ids : (s.bookings.map fun c => c.id).Nodup
  alone : ∀ c, c ∈ s.bookings → c.state = .running → spanSection c.span = x → c = b
  other : ∀ y, y ≠ x → (s.sect y).booking ≠ some b.id

/-- Every booking of the list is PENDING, and b is the only one whose start is at or below m. -/
structure OnlyDue (s : State) (b : Booking) (m : Nat) : Prop where
  listed : b ∈ s.bookings
  due : b.start.getD 0 ≤ m
  ids : (s.bookings.map fun c => c.id).Nodup
  pending : ∀ c, c ∈ s.bookings → c.state = .pending
  only : ∀ c, c ∈ s.bookings → c.start.getD 0 ≤ m → c = b

/-- The session of section x that ran in s is over in t: its record holds its free values, its seats have lost their
session parts and left the floor by R81, and its booking has left the calendar (R185). -/
structure SessionOver (x : Sect) (s t : State) : Prop where
  state : (t.sect x).state = .free
  booking : (t.sect x).booking = none
  settings : (t.sect x).settings = s.profiles[0]
  chairs : (t.sect x).chairs = []
  holders : (t.sect x).holders = []
  console : (t.sect x).console = false
  clockHold : (t.sect x).clockHold = false
  queue : (t.sect x).queue = []
  presenter : (t.sect x).presenter = none
  grace : (t.sect x).grace = .stopped
  idle : (t.sect x).idle = .stopped
  parts : ∀ i, s.sectionOf i = x → (t.seat i).part = none
  pending : ∀ i, s.sectionOf i = x → (s.seat i).mic = .pending → (t.seat i).mic = .closed
  speaking : ∀ i, s.sectionOf i = x → (s.seat i).mic = .active ∨ (s.seat i).mic = .suspended →
    (t.seat i).mic = .closing ∧ (t.seat i).slot = (s.seat i).slot ∧ (t.seat i).ramp = (s.seat i).ramp
  gone : ∀ b, s.runningBooking x = some b → ∀ c, c ∈ t.bookings → c.id ≠ b.id

/-- A seat from which section x takes its acting chairs: one of its seats of class CHAIR, on a JOINED table of the
lead half alone, the positions below K where A leads and those from K up where B does (R30). -/
def State.mayChair (s : State) (x : Sect) (i : Seat) : Prop :=
  s.sectionOf i = x ∧ (s.seat i).map.cls = .chair ∧
    (s.mode = .joined → if s.lead = .a then i.val % 24 < s.k else s.k ≤ i.val % 24)

/-- The acting chairs of section x: the first two of those seats in ascending number, or as many as there are (R30). -/
structure ChairsChosen (s : State) (x : Sect) : Prop where
  own : ∀ i, i ∈ (s.sect x).chairs → s.mayChair x i
  few : (s.sect x).chairs.length ≤ 2
  ascending : (s.sect x).chairs.Pairwise fun i j => i < j
  first : ∀ i, s.mayChair x i → i ∉ (s.sect x).chairs →
    (s.sect x).chairs.length = 2 ∧ ∀ j, j ∈ (s.sect x).chairs → j < i

/-- The session of a booking that was PENDING in s has started in t (R167, R26, R29, R173, R174), with no presenter
(R135), the clock hold flag clear (R94), the request and stamp counters at 1 (R59, R64), the acting chairs of R30, and in
every seat of the section a session part: its role, the name and share override its roster entry gives (R157). -/
structure StartedOn (b : Booking) (s t : State) : Prop where
  listed : { b with state := .running } ∈ t.bookings
  mode : t.mode = spanMode b.span
  split : t.k = s.k
  lead : t.lead = if b.span = .joined then b.lead else s.lead
  booking : (t.sect (spanSection b.span)).booking = some b.id
  loaded : (t.sect (spanSection b.span)).loaded = b.profile
  settings : (t.sect (spanSection b.span)).settings = s.profiles[b.profile]
  stampCtr : (t.sect (spanSection b.span)).stampCtr = 1
  reqCtr : (t.sect (spanSection b.span)).reqCtr = 1
  presenter : (t.sect (spanSection b.span)).presenter = none
  clockHold : (t.sect (spanSection b.span)).clockHold = false
  grace : b.origin = .scheduled → s.profiles[b.profile].grace.duration ≠ 0 →
    (t.sect (spanSection b.span)).state = .grace ∧
      (t.sect (spanSection b.span)).grace = .running s.profiles[b.profile].grace.duration
  open_ : b.origin = .walkIn ∨ s.profiles[b.profile].grace.duration = 0 →
    (t.sect (spanSection b.span)).state = .session ∨ (t.sect (spanSection b.span)).state = .ending
  chairs : ChairsChosen t (spanSection b.span)
  parts : ∀ i, t.sectionOf i = spanSection b.span →
    let entry := b.roster.find? fun e => e.seat = i
    (t.seat i).cumul = 0 ∧ (t.seat i).part =
      some { role := if i ∈ (t.sect (spanSection b.span)).chairs then .chair else .delegate,
             name := entry.map fun e => e.name, share := entry.bind fun e => e.share }

/-! ### The bounding of open walk-ins (R160) -/

/-- The bookings that a start at minute a bounds at minute now: open walk-ins, each the one that its section runs, in
SESSION or ENDING, with a at or beyond now + G. -/
structure Boundable (s : State) (now a : Nat) (l : List Booking) : Prop where
  runs : ∀ c, c ∈ l → RunsOn (spanSection c.span) c s
  walkIn : ∀ c, c ∈ l → c.origin = .walkIn
  unended : ∀ c, c ∈ l → c.stop = none
  state : ∀ c, c ∈ l →
    (s.sect (spanSection c.span)).state = .session ∨ (s.sect (spanSection c.span)).state = .ending
  guarded : ∀ c, c ∈ l → now + s.guardG ≤ a

/-- The state that the section of a bounded walk-in takes: ENDING where now stands within the warning time of its end
minute a, and SESSION otherwise (R179). -/
def State.boundState (s : State) (now a : Nat) (c : Booking) : SectState :=
  let w := (s.sect (spanSection c.span)).settings.ending
  if w ≠ 0 ∧ a ≤ now + w then .ending else .session

/-- What the bounding of open walk-ins tells: for each in booking order BOOKING END_CHANGED of reason BOUNDED, and a
SESSION notice where its section changes between SESSION and ENDING (R160, R170, R179). -/
def State.boundsTold (s : State) (now a : Nat) (l : List Booking) : List (List Port × Notice) :=
  l.flatMap fun c => s.endChangedTold (spanSection c.span) c a .bounded (s.boundState now a c)

/-- The state with the sections of these bookings FREE. -/
def State.freed (s : State) (l : List Booking) : State :=
  l.foldl (fun s c => s.modSect (spanSection c.span) fun r => { r with state := .free }) s

/-- A new or moved booking b that starts at now has started over the walk-ins of l: each took now as its end minute,
was told so before b's own notice, reached it, and ended with reason TIME; then b's session started (R160, R161, R167,
R181). u is the state whose request is accepted. -/
structure StartedOver (b : Booking) (now : Nat) (l : List Booking) (own : List Port × Notice) (s u t : State) :
    Prop where
  started : StartedOn b s t
  gone : ∀ c, c ∈ l → ∀ f, f ∈ t.bookings → f.id ≠ c.id
  told : ∃ post, Tells u t (s.boundsTold now now l ++ own :: post)
  ended : ∀ c, c ∈ l →
    let k : Booking := { c with stop := some now }
    ∃ pre post, Tells u t (pre ++
      [s.sessionTo (spanSection c.span) (s.boundState now now c) .free .time none none (some k) 0,
       ([.scp], s.notice (spanHeader (some c.span)) none
        (.booking .removed (some c.id) (some c.span) c.start (some now) (some .ended) (some .time) none))] ++ post)
  last : ∃ pre, Tells u t (pre ++
    (s.freed l).startTold b (t.sect (spanSection b.span)).state (if b.origin = .scheduled then .start else .walkIn))

/-! ### Invariants -/

/-- What the spec bounds: notice queues (R193), the booking list and its ids (R155), request queues (R47),
the second and the minute (R152), the poll miss count (R133), the place in the ring cycle (R103),
cumulative speaking seconds (R97) and denial tags (R130); rosters in seat order, each seat once, with at most 512
entries in all (R157). -/
structure WithinRanges (s : State) : Prop where
  notices : ∀ p, (s.port p).notices.length ≤ 16
  bookings : s.bookings.length ≤ 64
  ids : (s.bookings.map fun b => b.id).Nodup
  queues : ∀ x, (s.sect x).queue.length ≤ 24
  second : s.second ≤ 59
  minute : ∀ m, s.minute = some m → m ≤ 4294967294
  pollMiss : s.pollMiss ≤ 3
  place : s.place ≤ 959
  cumul : ∀ i, (s.seat i).cumul ≤ 65535
  denyTag : ∀ i, (s.seat i).denyTag ≤ 255
  rosters : ∀ b, b ∈ s.bookings → b.roster.Pairwise fun e f => e.seat.val < f.seat.val
  pool : (s.bookings.map fun b => b.roster.length).sum ≤ 512

/-- The relations of a seat's mic part and turn (R60, Table 5-1, R86): a slot is present exactly while the mic
is ACTIVE, SUSPENDED or CLOSING, an admission stamp exactly while it is PENDING, ACTIVE or SUSPENDED, the ramp
level is at most 32, and 0 while CLOSED or PENDING, the opened-by-priority flag is set only on the floor, and a
turn record is held only while ACTIVE or SUSPENDED. -/
structure MicFits (r : SeatRec) : Prop where
  slot : r.slot.isSome = r.mic.holdsSlot
  stamp : r.stamp.isSome = r.mic.onFloor
  ramp : r.ramp ≤ 32
  silent : r.mic = .closed ∨ r.mic = .pending → r.ramp = 0
  byPriority : r.byPriority = true → r.mic.onFloor = true
  turn : r.turn.isSome = true → r.mic = .active ∨ r.mic = .suspended

/-- Every seat's mic part keeps its relations. -/
def MicsFit (s : State) : Prop := ∀ i, MicFits (s.seat i)

/-- A split position that the spec allows: 4 to 20 (R22). -/
def splitOk (k : Nat) : Prop := 4 ≤ k ∧ k ≤ 20

/-- The split position lies in its range, in the working copy, in the stored table settings item and in a
write of it that is in progress. -/
structure SplitFits (s : State) : Prop where
  working : splitOk s.k
  stored : ∀ d, s.stored.table = some d → splitOk d.k
  writing : ∀ d, s.write = some (.table d) → splitOk d.k

/-- The counts and counters of the blocks lie in their ranges: bring-up count 0 to 100, miss count 0 to 3 (2.2),
expected event sequence 0 to 255 (R17), record versions 1 to 254 (R123), screen versions 1 to 65534 (R144),
admission stamp and request counters 1 to 65534 (R64, R48), clip counters 0 to 65535 (R115). -/
structure CountersFit (s : State) : Prop where
  bringUp : ∀ i, (s.seat i).bringUp ≤ 100
  miss : ∀ i, (s.seat i).miss ≤ 3
  expectSeq : ∀ i, (s.seat i).expectSeq ≤ 255
  ringVer : ∀ i, 1 ≤ (s.seat i).ringVer ∧ (s.seat i).ringVer ≤ 254
  plateVer : ∀ i, 1 ≤ (s.seat i).plateVer ∧ (s.seat i).plateVer ≤ 254
  screenVer : ∀ n v, (s.screen n).version = some v → 1 ≤ v ∧ v ≤ 65534
  stampCtr : ∀ x, 1 ≤ (s.sect x).stampCtr ∧ (s.sect x).stampCtr ≤ 65534
  reqCtr : ∀ x, 1 ≤ (s.sect x).reqCtr ∧ (s.sect x).reqCtr ≤ 65534
  busClip : ∀ x, (s.sect x).busClip ≤ 65535
  feedClip : ∀ x, (s.sect x).feedClip ≤ 65535

/-- A tile lies in the grid of 16 columns and 9 rows, and its crop window in the picture (R139). -/
structure TileFits (t : Tile) : Prop where
  columns : t.c0 ≤ t.c1 ∧ t.c1 ≤ 15
  rows : t.r0 ≤ t.r1 ∧ t.r1 ≤ 8
  cropC : t.cropC + (t.c1 - t.c0 + 1) ≤ 16
  cropR : t.cropR + (t.r1 - t.r0 + 1) ≤ 9

/-- The fields of a profile lie in the ranges of Table 11-3, and each layout has one to four tiles. -/
structure ProfileFits (p : Profile) : Prop where
  limit : 1 ≤ p.limit ∧ p.limit ≤ 6
  budget : p.budget ≤ 360
  warn : p.warn ≤ 120
  cap : p.cap ≤ 120
  grace : p.grace.steps ≤ 15
  idle : p.idle.steps ≤ 15
  ending : p.ending ≤ 15
  overrun : p.overrun ≤ 10
  factors : p.d1 ≤ 16384 ∧ p.d2 ≤ 16384 ∧ p.d3 ≤ 16384 ∧ p.d4 ≤ 16384
  volume : p.volume ≤ 16384
  bright : p.bright ≤ 255
  blink : p.blink ≤ 15
  layouts : ∀ n : ScreenNo, 1 ≤ p.layouts[n].length ∧ p.layouts[n].length ≤ 4 ∧ ∀ t, t ∈ p.layouts[n] → TileFits t

/-- The fields of a seat map entry lie in their ranges (R197). -/
structure EntryFits (e : MapEntry) : Prop where
  share : ∀ n, e.share = some n → n ≤ 7
  trim : e.trim ≤ 65535

/-- The table settings lie in their ranges (R22, R164). -/
structure TableSettingsFit (d : TableSettings) : Prop where
  k : splitOk d.k
  freezeF : d.freezeF ≤ 240
  guardG : d.guardG ≤ 60

/-- Everything that is set from outside lies in its range: working profiles, working settings, the seat map, F and G,
the stored items, the item of a write in progress, and so the remaining seconds of every turn (R121, R139, R140,
R164, R186, R187, R196, R197, R86). -/
structure SettingsFit (s : State) : Prop where
  profiles : ∀ n : ProfileNo, ProfileFits s.profiles[n]
  settings : ∀ x, ProfileFits (s.sect x).settings
  map : ∀ i, EntryFits (s.seat i).map
  table : TableSettingsFit s.tableSettings
  storedMap : ∀ m, s.stored.map = some m → ∀ i : Seat, EntryFits m[i]
  storedProfile : ∀ (n : ProfileNo) p, s.stored.profiles[n] = some p → ProfileFits p
  storedTable : ∀ d, s.stored.table = some d → TableSettingsFit d
  writeMap : ∀ m, s.write = some (.map m) → ∀ i : Seat, EntryFits m[i]
  writeProfile : ∀ n p, s.write = some (.profile n p) → ProfileFits p
  writeTable : ∀ d, s.write = some (.table d) → TableSettingsFit d
  remaining : ∀ i q, (s.seat i).turn = some q → -3600 ≤ q.remaining ∧ q.remaining ≤ 3600

/-- The display link: a screen that is not dirty has been sent the layout its record holds, under the version sent;
the in-flight version is the last version sent; the acknowledgement timer runs while an update is in flight; and once
the load is over no screen waits for an update that it may be sent (R143, R144). -/
structure LinkFits (s : State) : Prop where
  sent : ∀ n, (s.screen n).dirty = false →
    ∃ v, (s.screen n).sent = some (v, (s.screen n).layout) ∧ (s.screen n).version = some v
  flight : ∀ n v, (s.screen n).inFlight = some v → (s.screen n).version = some v
  timer : ∀ n, (s.screen n).ackTimer.isSome = (s.screen n).inFlight.isSome
  served : s.starting = false → ∀ n, (s.screen n).dirty = true → (s.screen n).inFlight = none →
    (s.screen n).link = .offline

/-- The request queues keep their form (R47, R59, R23): an entry is of a seat of the queue's own section, a seat
has at most one, and a section that is FREE or MERGED has none. -/
structure QueuesFit (s : State) : Prop where
  own : ∀ x e, e ∈ (s.sect x).queue → s.sectionOf e.seat = x
  once : ∀ x, ((s.sect x).queue.map fun e => e.seat).Nodup
  closed : ∀ x, (s.sect x).state = .free ∨ (s.sect x).state = .merged → (s.sect x).queue = []

/-- While the start-up load runs the table is free, both queues and the booking list are empty, and no section holds
a booking (R24, R195). -/
def LoadIdle (s : State) : Prop :=
  s.starting = true → s.tableFree = true ∧ s.bookings = [] ∧ ∀ x, (s.sect x).queue = [] ∧ (s.sect x).booking = none

/-- The floor of every section is in form: slots are 0 to 7 and none is held twice in a section (R66); a seat that is
not READY is CLOSED, and no queue entry is of one (R60, R47); the opened-by-priority flag is an acting chair's (R60);
in a section that is FREE, in GRACE or MERGED no seat is on the floor and the holder set is empty (R36, R81, R172);
seats have session parts just where a session runs (R30, R35, R173); the delegate count of a section is at most its N,
its acting chairs are at most two, all of its own seats, and its holders are among them (R30, R65, R75); PROMOTED
entries stand before NORMAL ones (R47). -/
structure FloorFits (s : State) : Prop where
  slots : ∀ i k, (s.seat i).slot = some k → k < 8
  single : ∀ i j, s.sectionOf i = s.sectionOf j → (s.seat i).slot ≠ none → (s.seat i).slot = (s.seat j).slot → i = j
  ready : ∀ i, (s.seat i).presence ≠ .ready → (s.seat i).mic = .closed
  queued : ∀ x e, e ∈ (s.sect x).queue → (s.seat e.seat).presence = .ready
  chairs : ∀ i, (s.seat i).byPriority = true → (s.seat i).isChair = true
  quiet : ∀ i, (s.sect (s.sectionOf i)).state.floorOpen = false → (s.seat i).mic.onFloor = false
  noHolder : ∀ x, (s.sect x).state.floorOpen = false → (s.sect x).holders = [] ∧ (s.sect x).console = false
  parts : ∀ i, (s.seat i).part.isSome = (s.sect (s.sectionOf i)).state.running
  limit : ∀ x, s.delegateCount x ≤ (s.sect x).settings.limit
  acting : ∀ i, (s.seat i).isChair = true ↔ i ∈ (s.sect (s.sectionOf i)).chairs
  two : ∀ x, (s.sect x).chairs.length ≤ 2 ∧ ∀ i, i ∈ (s.sect x).chairs → s.sectionOf i = x
  holder : ∀ x i, i ∈ (s.sect x).holders → i ∈ (s.sect x).chairs
  classes : ∀ x, (s.sect x).queue.Pairwise fun e f => f.cls = .promoted → e.cls = .promoted

/-- The calendar and the sections agree: bookings that share a section do not intersect (R156), a PENDING booking lies
ahead of a set table time (R154, R167), a RUNNING one is its section's, in the table mode its span needs, a walk-in with
no minutes while the time is unset, and with its end minute ahead but in OVERRUN (R155, R167, R172, R181); a running section has its booking in the list; B is MERGED just while the table is JOINED (R23); the list stands in
booking order (R155). -/
structure CalendarFits (s : State) : Prop where
  apart : ∀ b, b ∈ s.bookings → ∀ c, c ∈ s.bookings → b.id ≠ c.id → spansShare b.span c.span = true →
    intersects b.start b.stop c.start c.stop = false
  pending : ∀ b, b ∈ s.bookings → b.state = .pending → b.origin = .scheduled ∧
    (∀ m, s.minute = some m → m < b.start.getD 0) ∧ s.minute ≠ none ∧ b.start ≠ none ∧ b.stop ≠ none
  order : ∀ b, b ∈ s.bookings → b.state = .pending → ∀ a, b.start = some a → ∀ e, b.stop = some e → a < e
  running : ∀ b, b ∈ s.bookings → b.state = .running →
    (s.sect (spanSection b.span)).booking = some b.id ∧
    (s.sect (spanSection b.span)).state.running = true ∧ s.mode = spanMode b.span ∧
    (b.start = none ↔ s.minute = none) ∧ (s.minute = none → b.stop = none ∧ b.origin = .walkIn) ∧
    (∀ e, b.stop = some e → ∀ m, s.minute = some m → e ≤ m →
      (s.sect (spanSection b.span)).state = .overrun)
  held : ∀ x, (s.sect x).state.running = true →
    ∃ b, b ∈ s.bookings ∧ b.state = .running ∧ spanSection b.span = x ∧ (s.sect x).booking = some b.id
  idle : ∀ x, (s.sect x).state.running = false → (s.sect x).booking = none
  merged : s.secB.state = .merged ↔ s.mode = .joined
  first : s.secA.state ≠ .merged
  sorted : s.bookings.Pairwise fun b c => bookingBefore c b = false

/-- A RUNNING booking has begun: its start lies at or before a set table time, and before its end (R155, R167). Only a
SETTIME back undoes it, since R154 lets the booking run on. -/
def RunningBegun (s : State) : Prop :=
  ∀ b, b ∈ s.bookings → b.state = .running → ∀ a, b.start = some a →
    (∀ m, s.minute = some m → a ≤ m) ∧ ∀ e, b.stop = some e → a < e

/-- The presenter of a section is a seat of it that is READY and owns a source, and a section that is FREE or MERGED has
none (R135, R136). -/
def PresentersFit (s : State) : Prop :=
  ∀ x i o, (s.sect x).presenter = some (i, o) →
    s.sectionOf i = x ∧ (s.seat i).presence = .ready ∧ (s.ownsSource i).isSome = true ∧
      (s.sect x).state.running = true

/-- All of it at once. -/
structure TableFits (s : State) : Prop where
  ranges : WithinRanges s
  load : LoadIdle s
  mics : MicsFit s
  queues : QueuesFit s
  floor : FloorFits s
  calendar : s.starting = false → CalendarFits s

/-- What is shown is current: each READY seat holds the LED ring and nameplate records composed from the state
as it stands, and each screen the layout resolved from it. -/
structure ShownCurrent (s : State) : Prop where
  ring : ∀ i, (s.seat i).presence = .ready → (s.seat i).ring = s.composeRing i
  plate : ∀ i, (s.seat i).presence = .ready → (s.seat i).plate = s.composePlate i
  screens : ∀ n, (s.screen n).layout = s.resolved n

end Sys2Proof.Machine
end

