-- ==== Sys2Proof/Certificates/Slice0/Obligations.lean ====
section
/-! DEFINITION. The statements about the part, for the provers: each is a proposition over the model, with the
rule of spec/ it comes from in its docstring. -/

set_option autoImplicit false

open Sys2Proof
open Sys2Proof.Machine

/-! ### The queue of commands and the port block (spec/11 12.1 to 12.3) -/

/-- A step takes the command at the front of the queue and runs exec on it with the queue's rest; on an
empty queue the part idles (the idling is the model's choice, assumption 2). -/
def Obligations.StepTakesTheFront : Prop :=
  (∀ (c : Instr) (rest : List Instr) (s : State),
    step { s with pending := c :: rest } = exec c { s with pending := rest }) ∧
  ∀ s : State, s.pending = [] → step s = .next s

/-- The checks of R191 for every request of Table 12-3 and for a code outside it, in their order, each with
all it does: with REQ_BUSY set the request is discarded with REQ_OVERRUN; otherwise it is accepted, and
answered STARTING, ILLEGAL, NOT_PERMITTED or LENGTH with nothing else changed. That a PROFILE with a tile
count outside 1 to 4, and a ROSTER whose count byte is outside 1 to 8 or does not fit, are answered LENGTH
is the model's choice (assumptions 25 and 8). -/
def Obligations.RequestsAreCheckedInOrder : Prop :=
  ∀ (c : Instr) (p : Port) (code : Byte) (payload : List Byte) (s : State),
    request? c = some (p, code, payload) → c.wellFormed = true →
    ((s.port p).busy = true →
      exec c s = .next (s.setPort p
        { s.port p with noticeLost := false, framing := false, overrun := true, replyLost := false,
                        out := statusByte s.starting (s.port p) ::
                          List.replicate (payload.length + 1) 0 })) ∧
    ((s.port p).busy = false → s.starting = true →
      exec c s = .next (s.answers p code payload.length .starting [])) ∧
    (s.takesFrom p → tableCodes.contains code.toNat = false →
      exec c s = .next (s.answers p code payload.length .illegal [])) ∧
    (s.takesFrom p → tableCodes.contains code.toNat = true → p ∉ senders c →
      exec c s = .next (s.answers p code payload.length .notPermitted [])) ∧
    (s.takesFrom p → tableCodes.contains code.toNat = true → p ∈ senders c → lengthFits c = false →
      exec c s = .next (s.answers p code payload.length .length []))

/-- The non-lead chair port of a JOINED table: every chair command but WALKIN is refused NOT_LEAD and
changes nothing else, and so is WALKIN while A is not FREE (R32). -/
def Obligations.NonLeadPortIsRefused : Prop :=
  ∀ (c : Instr) (p : Port) (code : Byte) (payload : List Byte) (s : State) (half : Sect),
    request? c = some (p, code, payload) → c.wellFormed = true → requestFits c p → s.takesFrom p →
    portHalf p = some half → s.mode = .joined → half ≠ s.lead →
    (leadOnly c = true ∨ (code = 0x20 ∧ s.secA.state ≠ .free)) →
    exec c s = .next (s.answers p code payload.length .notLead [])

/-- The status byte shows STARTING, REQ_BUSY, REPLY_READY, NOTICE_PENDING, NOTICE_LOST, FRAMING, REQ_OVERRUN
and REPLY_LOST as bits 7 to 0 (Table 12-1). A STATUS transaction shifts it out, with 00h for each further
byte clocked, and clears the four sticky flags, whatever STARTING and REQ_BUSY stand at, and changes nothing
else (R189, R190). A discarded transaction sets FRAMING. One cut within its command byte clears no flag; any
other has shown a whole status byte, and the flags that byte showed are cleared first; a discarded FETCH has
shifted out message bytes and consumes nothing, any other 00h (R189, R190). Nothing else changes. That `out`
records the bytes shifted out whole, none of a command byte that was cut, that 00h follows the last byte of
a message, and that a transaction not to be discarded is no FRAMING event, is the model's choice
(assumptions 11, 43 and 5). What the bytes of a transaction make of it (R189, Table 12-3): it is discarded
when a byte was partly clocked, when a request lacks its length byte or holds another number of payload
bytes than L, and when L is above 250; otherwise command byte 00h is STATUS and 01h FETCH, with the bytes
clocked after it, and any other the request of its code with its payload, ILLEGAL just where the code is not
in Table 12-3. -/
def Obligations.StatusAndFraming : Prop :=
  ((∀ (b : Bool) (r : PortRec),
     (statusByte b r).getLsbD 7 = b ∧ (statusByte b r).getLsbD 6 = r.busy ∧
     (statusByte b r).getLsbD 5 = r.reply.isSome ∧ (statusByte b r).getLsbD 4 = !r.notices.isEmpty ∧
     (statusByte b r).getLsbD 3 = r.noticeLost ∧ (statusByte b r).getLsbD 2 = r.framing ∧
     (statusByte b r).getLsbD 1 = r.overrun ∧ (statusByte b r).getLsbD 0 = r.replyLost) ∧
   ∀ (r : StatusRead) (s : State),
     exec (.status r) s = .next (s.setPort r.port
       { s.port r.port with noticeLost := false, framing := false, overrun := false, replyLost := false,
                            out := statusByte s.starting (s.port r.port) :: List.replicate r.clocked 0 })) ∧
  (∀ (p : Port) (t : Clocked) (s : State),
     let r := s.port p
     let message : List Byte := match r.reply, r.notices with
       | some m, _ => enc8 m.bytes.length ++ m.bytes
       | none, d :: _ => enc8 d.bytes.length ++ d.bytes
       | none, [] => []
     (t.discarded = false → exec (.framing p t) s = .next s) ∧
     (t.discarded = true → t.bytes = [] →
       exec (.framing p t) s = .next (s.setPort p { r with framing := true, out := [] })) ∧
     ∀ code rest, t.discarded = true → t.bytes = code :: rest →
       exec (.framing p t) s = .next (s.setPort p
         { r with noticeLost := false, framing := true, overrun := false, replyLost := false,
                  out := statusByte s.starting r ::
                    (if code = 1 then (message ++ List.replicate rest.length 0).take rest.length
                     else List.replicate rest.length 0) })) ∧
  (∀ (p : Port) (bytes : List Byte) (cut : Bool),
     let t : Clocked := ⟨bytes, cut⟩
     let discards : Prop := transaction? p t = some (.framing p t) ∧ t.discarded = true
     (cut = true → discards) ∧
     (cut = false → bytes = [] → transaction? p t = none ∧ t.discarded = false) ∧
     ∀ code rest, cut = false → bytes = code :: rest →
       (code = 0 → transaction? p t = some (.status ⟨p, rest.length⟩)) ∧
       (code = 1 → transaction? p t = some (.fetch p rest.length)) ∧
       (code ≠ 0 → code ≠ 1 → rest = [] → discards) ∧
       ∀ len payload, code ≠ 0 → code ≠ 1 → rest = len :: payload →
         (payload.length ≠ len.toNat ∨ 250 < len.toNat → discards) ∧
         (payload.length = len.toNat → len.toNat ≤ 250 →
           ∃ c, transaction? p t = some c ∧ request? c = some (p, code, payload) ∧ c.wellFormed = true ∧
             t.discarded = false ∧ (c = .illegal p code payload ↔ tableCodes.contains code.toNat = false)))

/-- A FETCH that clocks out n bytes after the status byte takes the reply if there is one, otherwise the
oldest notice, and consumes it when its last byte is out; with neither it shifts out 00h bytes. Nothing else
changes but the sticky flags that the status byte showed (R192). That 00h follows the last byte of a message
is the model's choice (assumption 43). -/
def Obligations.FetchTakesReplyThenNotice : Prop :=
  ∀ (p : Port) (n : Nat) (s : State),
    let r := s.port p
    let shown (bytes : List Byte) : PortRec :=
      { r with noticeLost := false, framing := false, overrun := false, replyLost := false,
               out := statusByte s.starting r :: bytes }
    (∀ m, r.reply = some m →
      exec (.fetch p n) s = .next (s.setPort p
        { shown ((enc8 m.bytes.length ++ m.bytes ++ List.replicate n 0).take n) with
          reply := if m.bytes.length < n then none else some m })) ∧
    (∀ d rest, r.reply = none → r.notices = d :: rest →
      exec (.fetch p n) s = .next (s.setPort p
        { shown ((enc8 d.bytes.length ++ d.bytes ++ List.replicate n 0).take n) with
          notices := if d.bytes.length < n then rest else d :: rest })) ∧
    (r.reply = none → r.notices = [] →
      exec (.fetch p n) s = .next (s.setPort p (shown (List.replicate n 0))))

/-- The messages of Table 12-5: a reply is 80h, the command code echoed, the reply code and its payload, 3
to 255 bytes in all; a notice is its kind code 1 to 8, section, seat, minute and second in 8 bytes, then its
detail, 9 to 255 bytes in all (Table 12-5, R192, R194). -/
def Obligations.MessagesFitTheirForm : Prop :=
  (∀ r : Reply, r.bytes.take 3 = [0x80, r.command, BitVec.ofNat 8 r.code.code] ∧
    3 ≤ r.bytes.length ∧ r.bytes.length ≤ 255) ∧
  ∀ n : Notice, n.bytes.take 8 = enc8 n.detail.kind ++ opt8 (n.sect.map sectCode) ++
      opt8 (n.seat.map fun i => i.val) ++ opt32 n.minute ++ enc8 n.second ∧
    1 ≤ n.detail.kind ∧ n.detail.kind ≤ 8 ∧ 9 ≤ n.bytes.length ∧ n.bytes.length ≤ 255

/-! ### Reading commands -/

/-- READSEAT, READSECT and READQUEUE from any port answer OK with the record read, a number out of range is
refused RANGE, and nothing but the port changes (R84, R34, R57). A READSEAT reply opens with the seat, side,
position and section; a READQUEUE reply holds ten bytes and four for each entry; these lengths rest on the
widths that the model reads from R194 (assumption 22). A READSECT reply opens with the table mode, K, the
default mode, the lead port and the section's state; for a MERGED section B the lead port is CPA, as in
Table 3-3 (R34), and for one that is not MERGED the one that section A's record keeps, which the model
deduces (assumption 45). A caption in a SCREEN reply holds both its counts, by the model's choice
(assumption 46). LIST and READBOOK from the SCP and SCREEN from the MDP answer OK with what they read and
change nothing but the port; with table time unset LIST and READBOOK are refused NO_TIME, an id not in the
calendar NOT_FOUND, and an index above 63, a part above 8 or a screen above 3 RANGE (R169, R149). -/
def Obligations.ReadingCommandsChangeNothing : Prop :=
  ((∀ (p : Port) (payload : List Byte) (s : State), s.takesFrom p → payload.length = 1 →
     (∀ i, seatOf? (byteAt payload 0) = some i →
       exec (.readSeat p payload) s = .next (s.answers p 0x10 1 .ok (s.seatReply i))) ∧
     (47 < byteAt payload 0 → exec (.readSeat p payload) s = .next (s.answers p 0x10 1 .range [])) ∧
     (∀ x, sectOf? (byteAt payload 0) = some x →
       exec (.readSect p payload) s = .next (s.answers p 0x11 1 .ok (s.sectReply x)) ∧
       exec (.readQueue p payload) s = .next (s.answers p 0x12 1 .ok (s.queueReply x))) ∧
     (1 < byteAt payload 0 →
       exec (.readSect p payload) s = .next (s.answers p 0x11 1 .range []) ∧
       exec (.readQueue p payload) s = .next (s.answers p 0x12 1 .range []))) ∧
   (∀ (i : Seat) (s : State), (s.seatReply i).take 4 =
     enc8 i.val ++ enc8 (i.val / 24) ++ enc8 (i.val % 24) ++ enc8 (sectCode (s.sectionOf i))) ∧
   (∀ (x : Sect) (s : State), (s.sectReply x).take 5 =
     enc8 s.mode.code ++ enc8 s.k ++ enc8 s.defMode.code ++
       enc8 (if (s.sect x).state = .merged then 0 else sectCode s.lead) ++ enc8 (s.sect x).state.code) ∧
   ∀ (x : Sect) (s : State), (s.queueReply x).length = 10 + 4 * (s.sect x).queue.length) ∧
  ((∀ (payload : List Byte) (s : State), s.takesFrom .scp → payload.length = 1 →
     (s.minute = none → exec (.list .scp payload) s = .next (s.answers .scp 0x47 1 .noTime [])) ∧
     (s.minute ≠ none → 63 < byteAt payload 0 →
       exec (.list .scp payload) s = .next (s.answers .scp 0x47 1 .range [])) ∧
     (s.minute ≠ none → byteAt payload 0 ≤ 63 →
       exec (.list .scp payload) s = .next (s.answers .scp 0x47 1 .ok (s.listReply (byteAt payload 0))))) ∧
   (∀ (payload : List Byte) (s : State), s.takesFrom .scp → payload.length = 3 →
     (s.minute = none → exec (.readBook .scp payload) s = .next (s.answers .scp 0x48 3 .noTime [])) ∧
     (s.minute ≠ none → s.booking (word16At payload 0) = none →
       exec (.readBook .scp payload) s = .next (s.answers .scp 0x48 3 .notFound [])) ∧
     (∀ b, s.minute ≠ none → s.booking (word16At payload 0) = some b →
       (8 < byteAt payload 2 → exec (.readBook .scp payload) s = .next (s.answers .scp 0x48 3 .range [])) ∧
       (byteAt payload 2 = 0 →
         exec (.readBook .scp payload) s = .next (s.answers .scp 0x48 3 .ok (s.bookReply b))) ∧
       (1 ≤ byteAt payload 2 → byteAt payload 2 ≤ 8 →
         exec (.readBook .scp payload) s =
           .next (s.answers .scp 0x48 3 .ok (rosterReply b (byteAt payload 2)))))) ∧
   (∀ (payload : List Byte) (s : State), s.takesFrom .mdp → payload.length = 1 →
     (∀ n, screenOf? (byteAt payload 0) = some n →
       exec (.screen .mdp payload) s = .next (s.answers .mdp 0x6A 1 .ok (s.screenReply n))) ∧
     (3 < byteAt payload 0 → exec (.screen .mdp payload) s = .next (s.answers .mdp 0x6A 1 .range []))) ∧
   ∀ (index : Nat) (s : State),
     (s.listReply index).length = 3 + 16 * min 8 (s.bookings.length - index))

/-! ### The mix commands and the seat map (spec/06 7.8, spec/11 12.5) -/

/-- TRIM sets one seat's trim, unclamped, and nothing else of its entry or of the state; a seat above 47 is
refused RANGE (R118). -/
def Obligations.TrimSetsOneTrim : Prop :=
  ∀ (payload : List Byte) (s : State), s.takesFrom .mdp → payload.length = 3 →
    (∀ i, seatOf? (byteAt payload 0) = some i →
      exec (.trim .mdp payload) s =
        .next ((s.answers .mdp 0x60 3 .ok (enc8 i.val ++ enc16 (word16At payload 1))).modSeat i fun r =>
          { r with map := { r.map with trim := word16At payload 1 } })) ∧
    (47 < byteAt payload 0 → exec (.trim .mdp payload) s = .next (s.answers .mdp 0x60 3 .range []))

/-- NEIGHBOUR and VOLUME write the four factors, or the volume, of one section's working settings, each
clamped to 16384, and answer with what they wrote; a section above 1 is refused RANGE and a MERGED one
WRONG_STATE; nothing else changes (R119, R120, R23). -/
def Obligations.MixCommandsClampAndWrite : Prop :=
  ∀ (payload : List Byte) (s : State), s.takesFrom .mdp →
    (payload.length = 9 →
      (1 < byteAt payload 0 → exec (.neighbour .mdp payload) s = .next (s.answers .mdp 0x61 9 .range [])) ∧
      ∀ x, sectOf? (byteAt payload 0) = some x →
        ((s.sect x).state = .merged →
          exec (.neighbour .mdp payload) s = .next (s.answers .mdp 0x61 9 .wrongState [])) ∧
        ((s.sect x).state ≠ .merged →
          let d (n : Nat) : Nat := min (word16At payload n) 16384
          exec (.neighbour .mdp payload) s =
            .next ((s.answers .mdp 0x61 9 .ok (enc16 (d 1) ++ enc16 (d 3) ++ enc16 (d 5) ++ enc16 (d 7))).modSect
              x fun r => { r with settings :=
                { r.settings with d1 := d 1, d2 := d 3, d3 := d 5, d4 := d 7 } }))) ∧
    (payload.length = 3 →
      (1 < byteAt payload 0 → exec (.volume .mdp payload) s = .next (s.answers .mdp 0x62 3 .range [])) ∧
      ∀ x, sectOf? (byteAt payload 0) = some x →
        ((s.sect x).state = .merged →
          exec (.volume .mdp payload) s = .next (s.answers .mdp 0x62 3 .wrongState [])) ∧
        ((s.sect x).state ≠ .merged →
          let v := min (word16At payload 1) 16384
          exec (.volume .mdp payload) s =
            .next ((s.answers .mdp 0x62 3 .ok (enc16 v)).modSect x fun r =>
              { r with settings := { r.settings with volume := v } })))

/-- LEVELS answers with each section's state, open microphones, mixed set and two clip counters, then sets
the four counters to 0; nothing else changes (R117). -/
def Obligations.LevelsReadsAndClears : Prop :=
  ∀ (payload : List Byte) (s : State), s.takesFrom .mdp → payload.length = 0 →
    let part (x : Sect) : List Byte :=
      enc8 (s.sect x).state.code ++ enc8 (s.nom x) ++ enc8 (s.mixedSet x).length ++
        enc16 (s.sect x).busClip ++ enc16 (s.sect x).feedClip
    exec (.levels .mdp payload) s =
      .next (((s.answers .mdp 0x69 0 .ok (part .a ++ part .b)).modSect .a fun r =>
        { r with busClip := 0, feedClip := 0 }).modSect .b fun r => { r with busClip := 0, feedClip := 0 })

/-- SEATMAP with class CHAIR for a seat of class DELEGATE whose unit kind is DELEGATE_UNIT queues a SEAT
notice with event MISMATCH to the MDP; a SEATMAP that leaves the class unchanged, that sets class DELEGATE,
or for a seat with no unit kind queues none (R14). -/
def Obligations.SeatMapRaisesMismatch : Prop :=
  ∀ (payload : List Byte) (s : State) (i : Seat) (e : MapEntry),
    s.takesFrom .mdp → payload.length = 5 → seatMapFields? payload = some (i, e) →
    ∃ t, exec (.seatMap .mdp payload) s = .next t ∧
      (e.cls = .chair → (s.seat i).map.cls = .delegate → (s.seat i).kind = some .delegateUnit →
        (s.port .mdp).notices.length < 16 →
        (t.port .mdp).notices = (s.port .mdp).notices ++
          [{ sect := some (s.sectionOf i), seat := some i, minute := s.minute, second := s.second,
             detail := .seatMismatch .delegateUnit }]) ∧
      (e.cls = (s.seat i).map.cls ∨ e.cls = .delegate ∨ (s.seat i).kind = none →
        (t.port .mdp).notices = (s.port .mdp).notices)

/-- SEATMAP replaces one entry of the working seat map and answers with it, changes no other entry and no
floor part, and of the sections at most the presenters; a seat, class or share code out of range is refused
RANGE, and any other payload is taken with the class, share and trim it holds (R197). -/
def Obligations.SeatMapSetsOneEntry : Prop :=
  ∀ (payload : List Byte) (s : State), s.takesFrom .mdp → payload.length = 5 →
    (seatMapFields? payload = none →
      exec (.seatMap .mdp payload) s = .next (s.answers .mdp 0x65 5 .range [])) ∧
    (47 < byteAt payload 0 ∨ 1 < byteAt payload 1 ∨ (7 < byteAt payload 2 ∧ byteAt payload 2 ≠ 255) →
      seatMapFields? payload = none) ∧
    (byteAt payload 0 ≤ 47 → byteAt payload 1 ≤ 1 → byteAt payload 2 ≤ 7 ∨ byteAt payload 2 = 255 →
      ∃ i e, seatMapFields? payload = some (i, e) ∧ i.val = byteAt payload 0 ∧
        e.cls = (if byteAt payload 1 = 1 then .chair else .delegate) ∧
        e.share = (if byteAt payload 2 = 255 then none else some (byteAt payload 2)) ∧
        e.trim = word16At payload 3) ∧
    ∀ i e, seatMapFields? payload = some (i, e) →
      i.val = byteAt payload 0 ∧ e.trim = word16At payload 3 ∧
      ∃ t, exec (.seatMap .mdp payload) s = .next t ∧ SameBase s t ∧
        AnsweredAt s t .mdp 0x65 5 .ok (encEntry e) ∧ t.bookings = s.bookings ∧
        (t.seat i).map = e ∧ (∀ j, j ≠ i → SameUnit (s.seat j) (t.seat j)) ∧
        (∀ j, SameFloor (s.seat j) (t.seat j)) ∧
        ∀ x, { t.sect x with presenter := none } = { s.sect x with presenter := none }

/-- PROFILE writes one working profile and answers with the number and the fields it wrote; nothing else
changes, no running section's settings among them. A number above 7, or any field outside the range Table
11-3 gives it, is refused RANGE, field by field, with every tile of the four layouts; a payload with none is
taken, a factor or volume above 16384 stored as 16384 (R187, R186). That the presenter follows speaker field
is read 0 off and 1 on, and refused above 1, is the model's choice (assumption 47). -/
def Obligations.ProfileWritesOneProfile : Prop :=
  ∀ (payload : List Byte) (s : State), s.takesFrom .mdp → profileLengthOk payload = true →
    let f (n : Nat) : Nat := byteAt payload n
    let w : Nat := 30
    let x : Nat := w + 1 + 8 * f w
    let y : Nat := x + 1 + 8 * f x
    let z : Nat := y + 1 + 8 * f y
    let tileFits (a : Nat) : Prop := f a ≤ f (a + 1) ∧ f (a + 1) ≤ 15 ∧ f (a + 2) ≤ f (a + 3) ∧ f (a + 3) ≤ 8 ∧
      f (a + 4) ≤ 5 ∧ (f (a + 4) = 0 → f (a + 5) ≤ 7)
    let bad : Prop := 7 < f 0 ∨ 2 < f 1 ∨ 1 < f 2 ∨ f 3 < 1 ∨ 6 < f 3 ∨ 2 < f 4 ∨ 360 < word16At payload 5 ∨
      120 < f 7 ∨ 1 < f 8 ∨ 1 < f 9 ∨ 120 < f 10 ∨ 1 < f 11 ∨ 15 < f 12 ∨ 1 < f 13 ∨ 15 < f 14 ∨ 15 < f 15 ∨
      10 < f 16 ∨ 15 < f 28 ∨ 1 < f 29 ∨
      ∃ a, a ∈ [w, x, y, z] ∧ ∃ j, j < f a ∧ ¬ tileFits (a + 1 + 8 * j)
    (bad → exec (.profile .mdp payload) s = .next (s.answers .mdp 0x66 payload.length .range [])) ∧
    (¬ bad → ∃ n q, profileOf? (f 0) = some n ∧
      floorModeOf? (f 1) = some q.floorMode ∧ flagOf? (f 2) = some q.override ∧ q.limit = f 3 ∧
      keyModeOf? (f 4) = some q.keyMode ∧ q.budget = word16At payload 5 ∧ q.warn = f 7 ∧
      expiryOf? (f 8) = some q.expiry ∧ prioModeOf? (f 9) = some q.prioMode ∧ q.cap = f 10 ∧
      activityOf? (f 11) (f 12) = some q.grace ∧ activityOf? (f 13) (f 14) = some q.idle ∧
      q.ending = f 15 ∧ q.overrun = f 16 ∧ q.d1 = min (word16At payload 17) 16384 ∧
      q.d2 = min (word16At payload 19) 16384 ∧ q.d3 = min (word16At payload 21) 16384 ∧
      q.d4 = min (word16At payload 23) 16384 ∧ q.volume = min (word16At payload 25) 16384 ∧
      q.bright = f 27 ∧ q.blink = f 28 ∧ flagOf? (f 29) = some q.follows ∧
      tilesAt payload (f w) (w + 1) = some q.layouts[0] ∧ tilesAt payload (f x) (x + 1) = some q.layouts[1] ∧
      tilesAt payload (f y) (y + 1) = some q.layouts[2] ∧ tilesAt payload (f z) (z + 1) = some q.layouts[3] ∧
      profileOk q = true ∧
      exec (.profile .mdp payload) s =
        .next { s.answers .mdp 0x66 payload.length .ok (enc8 n.val ++ encProfile q) with
                profiles := s.profiles.set n q })

/-- STOREPROF and STOREMAP begin a write of the working copy as it stands and leave REQ_BUSY set with no
reply; with a write in progress they are refused BUSY; a profile number above 7 is refused RANGE before
that. Nothing else changes (R198, R196). The completion of a write replaces its item whole; the reply that
STOREMAP or STOREPROF is owed is placed at the MDP and REQ_BUSY clears; a table settings item that is marked
pending begins its write in the same event, from the working settings as they stand. Nothing else changes
(R196, R198). That STORE_WRITE_COMPLETE changes nothing without a write in progress is the model's choice
(assumption 5). -/
def Obligations.StoreWritesOneItemAtATime : Prop :=
  (∀ (payload : List Byte) (s : State), s.takesFrom .mdp →
     (payload.length = 1 →
       (7 < byteAt payload 0 → exec (.storeProf .mdp payload) s = .next (s.answers .mdp 0x67 1 .range [])) ∧
       ∀ n, profileOf? (byteAt payload 0) = some n →
         (s.write ≠ none → exec (.storeProf .mdp payload) s = .next (s.answers .mdp 0x67 1 .busy [])) ∧
         (s.write = none →
           exec (.storeProf .mdp payload) s =
             .next { s.accepted .mdp 1 with write := some (.profile n s.profiles[n]) })) ∧
     (payload.length = 0 →
       (s.write ≠ none → exec (.storeMap .mdp payload) s = .next (s.answers .mdp 0x68 0 .busy [])) ∧
       (s.write = none →
         exec (.storeMap .mdp payload) s =
           .next { s.accepted .mdp 0 with write := some (.map (Vector.ofFn fun i => (s.seat i).map)) }))) ∧
  (∀ s : State,
     let next : Option WriteJob := if s.tablePending then some (.table s.tableSettings) else none
     (s.write = none → exec .storeWriteComplete s = .next s) ∧
     (∀ image, s.write = some (.map image) →
       exec .storeWriteComplete s =
         .next { s.setPort .mdp (repliedRecord 0x68 .ok [] s.mdp) with
                 stored := { s.stored with map := some image }, write := next, tablePending := false }) ∧
     (∀ n image, s.write = some (.profile n image) →
       exec .storeWriteComplete s =
         .next { s.setPort .mdp (repliedRecord 0x67 .ok (enc8 n.val) s.mdp) with
                 stored := { s.stored with profiles := s.stored.profiles.set n (some image) },
                 write := next, tablePending := false }) ∧
     (∀ image, s.write = some (.table image) →
       exec .storeWriteComplete s =
         .next { s with stored := { s.stored with table := some image }, write := next,
                        tablePending := false }))

/-- FREEZE replaces F and G and answers with them, and a write of the table settings item that holds them
begins, or the item is marked pending while another write is in progress; an F above 240 or a G above 60 is
refused RANGE; nothing else changes, table time set or not (R164, R196). -/
def Obligations.FreezeSetsWindowAndGuard : Prop :=
  ∀ (payload : List Byte) (s : State), s.takesFrom .scp → payload.length = 2 →
    (240 < byteAt payload 0 ∨ 60 < byteAt payload 1 →
      exec (.freeze .scp payload) s = .next (s.answers .scp 0x46 2 .range [])) ∧
    (byteAt payload 0 ≤ 240 → byteAt payload 1 ≤ 60 →
      let f := byteAt payload 0
      let g := byteAt payload 1
      exec (.freeze .scp payload) s =
        .next { s.answers .scp 0x46 2 .ok (enc8 f ++ enc8 g) with
                freezeF := f, guardG := g,
                write := if s.write.isNone then
                    some (.table { s.tableSettings with freezeF := f, guardG := g })
                  else s.write,
                tablePending := s.tablePending || s.write.isSome })

/-! ### Layouts, screens and the division (spec/08, spec/02) -/

/-- LAYOUT writes one screen's layout, its crops clamped into the picture, into one section's working
settings and answers with it; nothing else changes but what screens and seats show. A field out of range is
refused RANGE, and no other: the tiles are those of the payload, a crop beyond the picture clamped to 16
less the width, 9 less the height. Section B while MERGED is refused WRONG_STATE (R140, R139, R23). -/
def Obligations.LayoutIsWritten : Prop :=
  ∀ (payload : List Byte) (s : State), s.takesFrom .mdp → payload.length = 3 + 8 * byteAt payload 2 →
    1 ≤ byteAt payload 2 → byteAt payload 2 ≤ 4 →
    (sectOf? (byteAt payload 0) = none ∨ screenOf? (byteAt payload 1) = none ∨
        tilesAt payload (byteAt payload 2) 3 = none →
      exec (.layout .mdp payload) s = .next (s.answers .mdp 0x63 payload.length .range [])) ∧
    (let f (j k : Nat) : Nat := byteAt payload (3 + 8 * j + k)
     let fits (j : Nat) : Prop := f j 0 ≤ f j 1 ∧ f j 1 ≤ 15 ∧ f j 2 ≤ f j 3 ∧ f j 3 ≤ 8 ∧ f j 4 ≤ 5 ∧
       (f j 4 = 0 → f j 5 ≤ 7)
     (tilesAt payload (byteAt payload 2) 3 = none ↔ ∃ j, j < byteAt payload 2 ∧ ¬ fits j) ∧
     ∀ l, tilesAt payload (byteAt payload 2) 3 = some l → l.length = byteAt payload 2 ∧
       ∀ j t, l[j]? = some t → t.c0 = f j 0 ∧ t.c1 = f j 1 ∧ t.r0 = f j 2 ∧ t.r1 = f j 3 ∧
         contentOf? (f j 4) (f j 5) = some t.content ∧
         t.cropC = min (f j 6) (16 - (t.c1 - t.c0 + 1)) ∧ t.cropR = min (f j 7) (9 - (t.r1 - t.r0 + 1))) ∧
    ∀ x n l, sectOf? (byteAt payload 0) = some x → screenOf? (byteAt payload 1) = some n →
      tilesAt payload (byteAt payload 2) 3 = some l →
      layoutOk l = true ∧
      ((s.sect x).state = .merged →
        exec (.layout .mdp payload) s = .next (s.answers .mdp 0x63 payload.length .wrongState [])) ∧
      ((s.sect x).state ≠ .merged →
        ∃ t, exec (.layout .mdp payload) s = .next t ∧
          t.bare = ((s.answers .mdp 0x63 payload.length .ok (encLayout l)).modSect x fun r =>
            { r with settings := { r.settings with layouts := r.settings.layouts.set n l } }).bare)

/-- SCREENSECT replaces the working assignment, in every section state, and answers with the four codes:
each screen's effective section is A in JOINED mode and its assigned section in DIVIDED mode, and the table
settings item with the new assignment is written or marked pending. A code above 1 is refused RANGE. Any
four codes of 0 and 1 are taken. Nothing else changes but what seats and screens show (R150, R33, R196). -/
def Obligations.ScreensAreReassigned : Prop :=
  ∀ (payload : List Byte) (s : State), s.takesFrom .mdp → payload.length = 4 →
    (assignment? payload = none →
      exec (.screenSect .mdp payload) s = .next (s.answers .mdp 0x6C 4 .range [])) ∧
    (assignment? payload = none ↔ ∃ n : ScreenNo, 1 < byteAt payload n.val) ∧
    ∀ v, assignment? payload = some v →
      (∀ n : ScreenNo, sectOf? (byteAt payload n.val) = some v[n]) ∧
      ∃ t, exec (.screenSect .mdp payload) s = .next t ∧
        t.bare = { s.answers .mdp 0x6C 4 .ok (payload.take 4) with
          screens := Vector.ofFn fun n =>
            { s.screen n with assigned := v[n], eff := (match s.mode with
              | .joined => .a
              | .divided => v[n]) },
          write := if s.write.isNone then some (.table { s.tableSettings with assign := v }) else s.write,
          tablePending := s.tablePending || s.write.isSome }.bare

/-- SPLIT from the MDP: a K outside 4 to 20 or another mode code is refused RANGE, and a table that is not
free WRONG_STATE, with nothing changed. Otherwise K, the default mode and the table mode take the values
given, section B is MERGED just when the table has become JOINED and FREE when it has become DIVIDED, every
fade ends where the division changes, the screens follow, SESSION of reason MODE is told for B where the
mode changes and nothing else, the lead port and the calendar stay, and the table settings item is written,
or marked pending while another write is in progress (R28, R25, R27, R29, R196). -/
def Obligations.SplitDividesTheTable : Prop :=
  ∀ (payload : List Byte) (s : State), s.takesFrom .mdp → payload.length = 2 →
    (within? 4 20 (byteAt payload 0) = none ∨ modeOf? (byteAt payload 1) = none →
      exec (.split .mdp payload) s = .next (s.answers .mdp 0x64 2 .range [])) ∧
    ∀ m, 4 ≤ byteAt payload 0 → byteAt payload 0 ≤ 20 → modeOf? (byteAt payload 1) = some m →
      (s.tableFree = false → exec (.split .mdp payload) s = .next (s.answers .mdp 0x64 2 .wrongState [])) ∧
      (s.tableFree = true →
        let k := byteAt payload 0
        let changes : Prop := s.mode ≠ m ∨ (m = .divided ∧ s.k ≠ k)
        ∃ t, exec (.split .mdp payload) s = .next t ∧
          t.k = k ∧ t.defMode = m ∧ t.mode = m ∧ t.lead = s.lead ∧ t.secA = s.secA ∧
          t.bookings = s.bookings ∧ AnsweredAt s t .mdp 0x64 2 .ok [] ∧
          Tells (s.accepted .mdp 2) t (if s.mode = m then [] else
            [{ s with mode := m }.sessionTo .b s.secB.state t.secB.state .mode none none none 0]) ∧
          (s.mode = m → t.secB = s.secB) ∧
          (s.mode ≠ m → t.secB.state = (match m with
              | .joined => .merged
              | .divided => .free) ∧ t.secB.settings = s.profiles[0] ∧ t.secB.queue = [] ∧
            t.secB.stampCtr = s.secB.stampCtr) ∧
          (∀ i, SameUnit (s.seat i) (t.seat i)) ∧
          (∀ i, ¬ changes ∨ (s.seat i).mic ≠ .closing → SameFloor (s.seat i) (t.seat i)) ∧
          (∀ i, changes → (s.seat i).mic = .closing →
            (t.seat i).mic = .closed ∧ (t.seat i).ramp = 0 ∧ (t.seat i).slot = none) ∧
          (∀ n, (t.screen n).assigned = (s.screen n).assigned ∧
            (changes → (t.screen n).eff = effSection m (s.screen n).assigned)) ∧
          (s.write = none → t.write = some (.table t.tableSettings)) ∧
          (s.write ≠ none → t.write = s.write ∧ t.tablePending = true))

/-! ### The seat rings (spec/01) -/

/-- VISIT_OPEN after the start-up load with no visit open: the controller visits its next position, in
ascending order from 0 to 23 and then 0 again, and sends the message that Table 2-1 gives for the seat's
presence state; a READY seat is sent the feed block of the cycle before, samples of 0 where there was none
(R20; assumption 28), and each record whose version is not the acknowledged one. Nothing else changes (R1,
R2, R15). That it changes nothing while the load runs, or while a visit is open, is the model's choice
(assumptions 13 and 12). -/
def Obligations.VisitSendsByPresence : Prop :=
  ∀ (d : Side) (s : State),
    (s.starting = true ∨ (s.ring d).visit ≠ none → exec (.visitOpen d) s = .next s) ∧
    (s.starting = false → (s.ring d).visit = none →
      let pos := (s.ring d).next
      let r := s.seat (seatAt d pos)
      ∃ m : DownMsg,
        exec (.visitOpen d) s = .next (s.setRing d { next := pos + 1, visit := some pos, down := some m }) ∧
        m.position = pos.val ∧
        (r.presence = .absent ∨ r.presence = .detected ∨ r.presence = .fault →
          m.powerOn = false ∧ m.content = .poll) ∧
        (r.presence = .powering → m.powerOn = true ∧ m.content = .powerQuery) ∧
        (r.presence = .identifying → m.powerOn = true ∧ m.content = .identify) ∧
        (r.presence = .configuring → m.powerOn = true ∧ m.content = .configure (seatAt d pos) 0) ∧
        (r.presence = .ready → m.powerOn = true ∧ ∃ feed ring plate,
          m.content = .ready r.expectSeq feed ring plate ∧
          (r.feedLast.length = 960 → feed = r.feedLast) ∧
          feed = r.feedLast ++ List.replicate (960 - r.feedLast.length) 0 ∧
          ring = (if r.ackRing = some r.ringVer then none else some (r.ring, r.ringVer)) ∧
          plate = (if r.ackPlate = some r.plateVer then none else some (r.plate, r.plateVer))))

/-- A well-formed answer in the bring-up steps (R5, R6, R7) and in FAULT (R9): ABSENT goes to DETECTED with
bring-up count 1; DETECTED counts to 8 and then goes to POWERING; GOOD leads from POWERING to IDENTIFYING,
and the hundredth visit without it to FAULT; a unit kind leads from IDENTIFYING to CONFIGURING, with a SEAT
notice MISMATCH for a DELEGATE_UNIT at a CHAIR-class seat; a seat in FAULT stays in it. Nothing else of the
state changes. The configuration acknowledgement with the configured indicator set moves a seat from
CONFIGURING to READY with event sequence 0 and no acknowledged version, and queues a SEAT notice READY with
its unit kind to the MDP; nothing else changes but what seats and screens show (R8, R13). A well-formed
answer without the content its state asks for counts as a missed visit and acts as one: in IDENTIFYING one
without a unit kind, or with a code that names none; in CONFIGURING one that is no acknowledgement or has
the configured indicator clear; in READY, with the indicator set, one without the READY content (R4, R7,
R8). That 0 and 1 are the codes of the two unit kinds, and any other names none, is the model's reading
(assumption 20). -/
def Obligations.AnswersBringASeatUp : Prop :=
  ((∀ (d : Side) (pos : Fin 24) (m : UpMsg) (s : State), (s.ring d).visit = some pos →
      m.checkOk = true → m.lengthOk = true → m.position = pos.val →
      let i := seatAt d pos
      let r := s.seat i
      let u := s.setRing d { s.ring d with visit := none }
      let note (k : NoticeDetail) : Notice :=
        { sect := some (s.sectionOf i), seat := some i, minute := s.minute, second := s.second, detail := k }
      (r.presence = .absent →
        exec (.answerArrival d m) s =
          .next (u.setSeat i { r with presence := .detected, bringUp := 1, miss := 0 })) ∧
      (r.presence = .detected → r.bringUp < 7 →
        exec (.answerArrival d m) s = .next (u.setSeat i { r with bringUp := r.bringUp + 1, miss := 0 })) ∧
      (r.presence = .detected → 7 ≤ r.bringUp →
        exec (.answerArrival d m) s =
          .next (u.setSeat i { r with presence := .powering, bringUp := 0, miss := 0 })) ∧
      (r.presence = .powering → m.powerGood = true →
        exec (.answerArrival d m) s =
          .next (u.setSeat i { r with presence := .identifying, bringUp := 0, miss := 0 })) ∧
      (r.presence = .powering → m.powerGood = false → r.bringUp < 99 →
        exec (.answerArrival d m) s = .next (u.setSeat i { r with bringUp := r.bringUp + 1, miss := 0 })) ∧
      (r.presence = .powering → m.powerGood = false → 99 ≤ r.bringUp →
        exec (.answerArrival d m) s =
          .next ((u.setSeat i { r with presence := .fault, bringUp := 0, miss := 0,
                                       fault := some ⟨2, .timeout⟩ }).modPort .mdp
            (joinQueue (note (.seatFault 2 .timeout))))) ∧
      (∀ code k, r.presence = .identifying → m.content = .unitKind code → unitKindOf? code = some k →
        let v := u.setSeat i { r with presence := .configuring, bringUp := 0, miss := 0, kind := some k }
        exec (.answerArrival d m) s =
          .next (if k = .delegateUnit ∧ r.map.cls = .chair then
            v.modPort .mdp (joinQueue (note (.seatMismatch k))) else v)) ∧
      (r.presence = .fault → exec (.answerArrival d m) s = .next (u.setSeat i { r with miss := 0 }))) ∧
   (∀ (d : Side) (pos : Fin 24) (m : UpMsg) (s : State), (s.ring d).visit = some pos →
      m.checkOk = true → m.lengthOk = true → m.position = pos.val → m.content = .configAck →
      m.configured = true → (s.seat (seatAt d pos)).presence = .configuring →
      let i := seatAt d pos
      ∃ t, exec (.answerArrival d m) s = .next t ∧
        t.bare = (((s.setRing d { s.ring d with visit := none }).modSeat i fun r =>
          { r with presence := .ready, bringUp := 0, miss := 0, expectSeq := 0, ackRing := none,
                   ackPlate := none }).modPort .mdp (joinQueue
            { sect := some (s.sectionOf i), seat := some i, minute := s.minute, second := s.second,
              detail := .seatReady (s.seat i).kind })).bare)) ∧
  (∀ (d : Side) (pos : Fin 24) (m : UpMsg) (s : State), (s.ring d).visit = some pos →
     m.checkOk = true → m.lengthOk = true → m.position = pos.val →
     let r := s.seat (seatAt d pos)
     (r.presence = .identifying → (∀ code, m.content = .unitKind code → 2 ≤ code) →
       exec (.answerArrival d m) s = exec (.missedVisit d) s) ∧
     (r.presence = .configuring → m.content ≠ .configAck ∨ m.configured = false →
       exec (.answerArrival d m) s = exec (.missedVisit d) s) ∧
     (r.presence = .ready → m.configured = true →
       (∀ first events ackRing ackPlate mic, m.content ≠ .ready first events ackRing ackPlate mic) →
       exec (.answerArrival d m) s = exec (.missedVisit d) s))

/-- The answer of a READY seat with the configured indicator set stores the two reported versions, whatever
they are, and the microphone block, and sets the miss count to 0 (R16, R19). Where it carries no key event,
or only events that were taken before, nothing else changes. The expected event sequence moves past each
event that does not lie 1 to 128 behind it, modulo 256 (R17). -/
def Obligations.ReadyAnswerIsTaken : Prop :=
  ∀ (d : Side) (pos : Fin 24) (m : UpMsg) (s : State) (firstSeq : Nat) (events : List KeyEvent)
    (ackRing ackPlate : Option Nat) (mic : List Int), (s.ring d).visit = some pos →
    m.checkOk = true → m.lengthOk = true → m.position = pos.val → m.configured = true →
    m.content = .ready firstSeq events ackRing ackPlate mic →
    (s.seat (seatAt d pos)).presence = .ready →
    let i := seatAt d pos
    let after (expect j : Nat) : Nat :=
      let n := (firstSeq + j) % 256
      let behind := (expect + 256 - n) % 256
      if 1 ≤ behind ∧ behind ≤ 128 then expect else (n + 1) % 256
    ∃ t, exec (.answerArrival d m) s = .next t ∧
      (t.seat i).ackRing = ackRing ∧ (t.seat i).ackPlate = ackPlate ∧ (t.seat i).micNext = mic ∧
      (t.seat i).miss = 0 ∧
      (t.seat i).expectSeq = (List.range events.length).foldl after (s.seat i).expectSeq ∧
      ((∀ j, j < events.length → after (s.seat i).expectSeq j = (s.seat i).expectSeq) →
        t = (s.setRing d { s.ring d with visit := none }).modSeat i fun r =>
          { r with miss := 0, ackRing := ackRing, ackPlate := ackPlate, micNext := mic })

/-- A READY seat whose answer arrives with the configured indicator clear, whose third visit in a row is
missed, or that is reseated, leaves READY at once, to DETECTED with bring-up count 1, to ABSENT, and to
DETECTED with bring-up count 0: its mic is CLOSED, without slot, stamp, flag or turn, it stands in neither
queue nor holder set, and a SEAT notice LOST with the cause is queued at the MDP, and, where its section
runs a session and its part holds an occupant name, at the section's chair ports, wherever the queue has
room; no other port is sent one (R10, R11, R12, R13, R80). That this notice stands before the others of the
event is the model's choice (assumption 14), and so is that MISS_COUNT_LIMIT acts as the whole missed visit
(assumption 4). -/
def Obligations.LostSeatLeavesTheFloor : Prop :=
  ∀ (d : Side) (pos : Fin 24) (s : State),
    let i := seatAt d pos
    let named : Prop := (s.sect (s.sectionOf i)).state.running = true ∧
      ((s.seat i).part.bind fun p => p.name) ≠ none
    let lost (t : State) (why : LostCause) : Prop :=
      let n : Notice := { sect := some (s.sectionOf i), seat := some i, minute := s.minute, second := s.second,
                          detail := .seatLost why }
      (∀ q, q = .mdp ∨ named ∧ q ∈ s.chairPorts (s.sectionOf i) → (s.port q).notices.length < 16 →
        (s.port q).notices ++ [n] <+: (t.port q).notices) ∧
      ∀ q, q ≠ .mdp → ¬ (named ∧ q ∈ s.chairPorts (s.sectionOf i)) → ∀ m, m ∈ (t.port q).notices →
        m ∈ (s.port q).notices ∨ m.detail ≠ .seatLost why
    (s.seat i).presence = .ready →
      ((s.ring d).visit = some pos →
        (∀ m : UpMsg, m.checkOk = true → m.lengthOk = true → m.position = pos.val → m.configured = false →
          ∃ t, exec (.answerArrival d m) s = .next t ∧ SeatLeft s t i .detected 1 ∧ lost t .restart) ∧
        (2 ≤ (s.seat i).miss → ∀ c, c = .missedVisit d ∨ c = .missCountLimit d →
          ∃ t, exec c s = .next t ∧ SeatLeft s t i .absent 0 ∧ lost t .missed)) ∧
      (s.takesFrom .mdp → ∀ payload : List Byte, payload.length = 1 → byteAt payload 0 = i.val →
        ∃ t, exec (.reseat .mdp payload) s = .next t ∧ SeatLeft s t i .detected 0 ∧ lost t .reseat ∧
          AnsweredAt s t .mdp 0x6B 1 .ok [])

/-- RESEAT of a seat that is neither ABSENT nor READY restarts its bring-up from DETECTED with both counts 0
and no fault record or unit kind, and changes nothing else; a seat in ABSENT is refused WRONG_STATE and a
number above 47 RANGE (R12). -/
def Obligations.ReseatRestartsBringUp : Prop :=
  ∀ (payload : List Byte) (s : State), s.takesFrom .mdp → payload.length = 1 →
    (47 < byteAt payload 0 → exec (.reseat .mdp payload) s = .next (s.answers .mdp 0x6B 1 .range [])) ∧
    ∀ i, seatOf? (byteAt payload 0) = some i →
      ((s.seat i).presence = .absent →
        exec (.reseat .mdp payload) s = .next (s.answers .mdp 0x6B 1 .wrongState [])) ∧
      ((s.seat i).presence ≠ .absent → (s.seat i).presence ≠ .ready →
        exec (.reseat .mdp payload) s =
          .next ((s.answers .mdp 0x6B 1 .ok []).modSeat i fun r =>
            { r with presence := .detected, bringUp := 0, miss := 0, fault := none, kind := none }))

/-- A visit that closes without an answer: nothing in ABSENT; in DETECTED the bring-up count goes to 0, and
in POWERING it rises, to FAULT with TIMEOUT at 100; the miss count rises, and at 3 a seat in bring-up goes
to FAULT with the step it was in and reason LOST, and a seat in FAULT to ABSENT (R4, R5, R6, R9). Nothing
else changes but a SEAT notice to the MDP. The rows MISS_COUNT_LIMIT and POWERING_TIMEOUT act as this event
in the case each names, and change nothing in any other (assumption 4). Any other message is no answer: with
no visit open, or with a wrong check code, length or position, it is discarded and changes nothing, the
visit still open; a visit that is not open is not missed either (R3; one visit at a time and its end at the
answer are assumption 12). -/
def Obligations.MissedVisitsCount : Prop :=
  (∀ (d : Side) (pos : Fin 24) (s : State), (s.ring d).visit = some pos →
     let i := seatAt d pos
     let r := s.seat i
     let u := s.setRing d { s.ring d with visit := none }
     let note (k : NoticeDetail) : Notice :=
       { sect := some (s.sectionOf i), seat := some i, minute := s.minute, second := s.second, detail := k }
     let fault (step : Nat) (why : FaultReason) : State :=
       (u.setSeat i { r with presence := .fault, bringUp := 0, miss := 0, fault := some ⟨step, why⟩ }).modPort
         .mdp (joinQueue (note (.seatFault step why)))
     let counted : Nat := match r.presence with
       | .detected => 0
       | .powering => r.bringUp + 1
       | .absent | .identifying | .configuring | .ready | .fault => r.bringUp
     let third (c : Instr) : Prop :=
       (r.presence = .detected → exec c s = .next (fault 1 .lost)) ∧
       (r.presence = .powering → r.bringUp < 99 → exec c s = .next (fault 2 .lost)) ∧
       (r.presence = .identifying → exec c s = .next (fault 3 .lost)) ∧
       (r.presence = .configuring → exec c s = .next (fault 4 .lost)) ∧
       (r.presence = .fault → exec c s =
         .next ((u.setSeat i { r with presence := .absent, bringUp := 0, miss := 0, fault := none,
                                      kind := none }).modPort .mdp (joinQueue (note .seatAbsent))))
     (r.presence = .absent → exec (.missedVisit d) s = .next u ∧ exec (.missCountLimit d) s = .next s) ∧
     (r.presence ≠ .absent → r.miss < 2 → (r.presence = .powering → r.bringUp < 99) →
       exec (.missedVisit d) s = .next (u.setSeat i { r with miss := r.miss + 1, bringUp := counted })) ∧
     (r.miss < 2 → exec (.missCountLimit d) s = .next s) ∧
     (2 ≤ r.miss → third (.missedVisit d) ∧ third (.missCountLimit d)) ∧
     (r.presence = .powering → 99 ≤ r.bringUp →
       exec (.missedVisit d) s = .next (fault 2 .timeout) ∧
       exec (.poweringTimeout d) s = .next (fault 2 .timeout)) ∧
     (r.presence ≠ .powering ∨ r.bringUp < 99 → exec (.poweringTimeout d) s = .next s)) ∧
  (∀ (d : Side) (m : UpMsg) (s : State),
     ((s.ring d).visit = none → exec (.answerArrival d m) s = .next s ∧ exec (.missedVisit d) s = .next s ∧
       exec (.missCountLimit d) s = .next s ∧ exec (.poweringTimeout d) s = .next s) ∧
     ∀ pos, (s.ring d).visit = some pos →
       m.checkOk = false ∨ m.lengthOk = false ∨ m.position ≠ pos.val → exec (.answerArrival d m) s = .next s)

/-! ### The audio mix (spec/06) -/

/-- Round-scale of v by g is floor((v × g + 8192) / 16384), an exact half rounded toward plus infinity, for
negative values too; by 16384 it is v itself. Saturate gives −8,388,608 below the range, 8,388,607 above it
and the value itself otherwise, and a value saturates just when saturate changes it (R105). The ramped
contribution of a seat with trimmed sample p and ramp level L is floor((p × L + 16) / 32): p itself at L =
32 and 0 at L = 0; a SUSPENDED seat at 0 stays in the mixed set and contributes 0 (R107). Distances are
counted in positions, one more across the table; two different seats are at distance 1 or more; the factor
is D1, D2, D3 for distances 1 to 3 and D4 beyond (R109). The last clause is Table 7-2, from seat N5. The
mixed set of a section holds its seats that are ACTIVE, SUSPENDED or CLOSING, in seat order, each with the
contribution of its trimmed and ramped sample, a sample of 0 where the seat is not READY or its block is
missing; NOM counts its ACTIVE seats (R104, R106). The bus gain by NOM is that of Table 7-1, 16384 / √NOM
rounded (R108). A listening seat's feed before saturate is the round-scale, by the gain and then by V, of
the sum over the mixed set of each contribution round-scaled by the factor for its distance, 0 for an empty
set (R110). -/
def Obligations.MixArithmetic : Prop :=
  ((∀ (v : Int) (g : Nat), 16384 * roundScale v g ≤ v * g + 8192 ∧ v * g + 8192 < 16384 * (roundScale v g + 1)) ∧
   roundScale 3 8192 = 2 ∧ roundScale (-3) 8192 = -1 ∧ (∀ v : Int, roundScale v 16384 = v) ∧
   ∀ v : Int, (v < -8388608 → saturate v = -8388608) ∧ (8388607 < v → saturate v = 8388607) ∧
     (-8388608 ≤ v → v ≤ 8388607 → saturate v = v) ∧
     (clipDir? v = none ↔ saturate v = v) ∧ (clipDir? v = some .positive ↔ 8388607 < v) ∧
     (clipDir? v = some .negative ↔ v < -8388608)) ∧
  ((∀ (x : Int) (trim ramp : Nat), ramp ≤ 32 →
     let p := roundScale x trim
     32 * contribution x trim ramp ≤ p * ramp + 16 ∧ p * ramp + 16 < 32 * (contribution x trim ramp + 1)) ∧
   (∀ (x : Int) (trim : Nat), contribution x trim 32 = roundScale x trim ∧ contribution x trim 0 = 0) ∧
   ∀ (s : State) (i : Seat), (s.seat i).mic = .suspended → (s.seat i).ramp = 0 →
     i ∈ s.mixedSet (s.sectionOf i) ∧ (i, 0) ∈ s.contributions (s.sectionOf i)) ∧
  ((∀ i j : Seat, seatSide i = seatSide j →
     distance i j = (max (seatPos i) (seatPos j)) - (min (seatPos i) (seatPos j))) ∧
   (∀ i j : Seat, seatSide i ≠ seatSide j →
     distance i j = (max (seatPos i) (seatPos j)) - (min (seatPos i) (seatPos j)) + 1) ∧
   (∀ i j : Seat, i ≠ j → 1 ≤ distance i j) ∧
   (∀ p : Profile, neighbourFactor p 1 = p.d1 ∧ neighbourFactor p 2 = p.d2 ∧ neighbourFactor p 3 = p.d3 ∧
     ∀ d, 4 ≤ d → neighbourFactor p d = p.d4) ∧
   (List.map (distance 5) [4, 6, 29] = [1, 1, 1] ∧ List.map (distance 5) [3, 7, 28, 30] = [2, 2, 2, 2] ∧
     List.map (distance 5) [2, 8, 27, 31] = [3, 3, 3, 3] ∧ List.map (distance 5) [1, 9, 26, 32] = [4, 4, 4, 4])) ∧
  ((∀ (s : State) (x : Sect),
     let sample (i : Seat) : Int := if (s.seat i).presence = .ready then (s.seat i).micNow.getD s.place 0 else 0
     s.mixedSet x = ((List.finRange 48).filter fun i => s.sectionOf i = x ∧
       ((s.seat i).mic = .active ∨ (s.seat i).mic = .suspended ∨ (s.seat i).mic = .closing)) ∧
     s.contributions x = ((s.mixedSet x).map fun i =>
       (i, contribution (sample i) (s.seat i).map.trim (s.seat i).ramp)) ∧
     s.nom x = ((List.finRange 48).filter fun i => s.sectionOf i = x ∧ (s.seat i).mic = .active).length) ∧
   (List.map busGain [0, 1, 2, 3, 4, 5, 6, 7, 8] = [0, 16384, 11585, 9459, 8192, 7327, 6689, 6193, 5793] ∧
     ∀ n, 1 ≤ n → n ≤ 8 →
       n * (2 * busGain n - 1) ^ 2 ≤ 32768 ^ 2 ∧ 32768 ^ 2 ≤ n * (2 * busGain n + 1) ^ 2) ∧
   ∀ (p : Profile) (gain : Nat) (qs : List (Seat × Int)) (j : Seat),
     feedValue p gain qs j =
       roundScale (roundScale (qs.map fun q => roundScale q.2 (neighbourFactor p (distance q.1 j))).sum gain) p.volume)

/-- AUDIO_FRAME after the start-up load: output 1 carries bus A, and output 2 bus B when DIVIDED and bus A
when JOINED, each bus the saturated round-scale, by the gain for the open microphones, of the sum of the
contributions (R108, R111); a READY seat whose mic is CLOSED gets the feed of R110 and any other seat 0, and
the last frame of a cycle hands the blocks over: the microphone block that arrived becomes the one in use,
and the feed block of the cycle, this frame's sample last, the next to go down (R19, R20); a clip counter
rises by one, to at most 65535, in a frame that saturates (R115), and a counter that rises from 0 queues one
CLIP notice at the MDP with its section, the table time and the direction, BUS with no seat, FEED with the
lowest seat that saturates, BUS before FEED and A before B, where none rises from 0 none (R116); the ramps
step in a frame of count 15 alone. Everything else stays as it was. While the load runs nothing changes
(R103; assumption 13). -/
def Obligations.FrameComputesBusesAndFeeds : Prop :=
  ∀ s : State,
    (s.starting = true → exec .audioFrame s = .next s) ∧
    (s.starting = false → ∃ t, exec .audioFrame s = .next t ∧
      let u (x : Sect) : Int := roundScale ((s.contributions x).map fun q => q.2).sum (busGain (s.nom x))
      let w (i : Seat) : Int := feedValue (s.sect (s.sectionOf i)).settings (busGain (s.nom (s.sectionOf i)))
        (s.contributions (s.sectionOf i)) i
      t.out1 = saturate (u .a) ∧
      t.out2 = (match s.mode with
        | .divided => saturate (u .b)
        | .joined => saturate (u .a)) ∧
      (∀ i, let feed : Int :=
          if (s.seat i).presence = .ready ∧ (s.seat i).mic = .closed then saturate (w i) else 0
        (s.place < 959 → t.place = s.place + 1 ∧ (t.seat i).feedNow = feed :: (s.seat i).feedNow ∧
          (t.seat i).feedLast = (s.seat i).feedLast ∧ (t.seat i).micNow = (s.seat i).micNow ∧
          (t.seat i).micNext = (s.seat i).micNext) ∧
        (959 ≤ s.place → t.place = 0 ∧ (t.seat i).feedNow = [] ∧
          (t.seat i).feedLast = (feed :: (s.seat i).feedNow).reverse ∧
          (t.seat i).micNow = (s.seat i).micNext ∧ (t.seat i).micNext = [])) ∧
      (∀ x, (t.sect x).busClip = (if saturate (u x) = u x then (s.sect x).busClip
        else if (s.sect x).busClip < 65535 then (s.sect x).busClip + 1 else 65535)) ∧
      (∀ x, (t.sect x).feedClip = (if (∃ i, s.sectionOf i = x ∧ (s.seat i).presence = .ready ∧
          (s.seat i).mic = .closed ∧ saturate (w i) ≠ w i) then
        (if (s.sect x).feedClip < 65535 then (s.sect x).feedClip + 1 else 65535)
        else (s.sect x).feedClip)) ∧
      (∀ x, { t.sect x with busClip := 0, feedClip := 0 } = { s.sect x with busClip := 0, feedClip := 0 }) ∧
      (s.frameCount ≠ 15 → t.steps = s.steps ∧
        ∀ i, (t.seat i).ramp = (s.seat i).ramp ∧ (t.seat i).fadeReport = (s.seat i).fadeReport) ∧
      (∀ i, { t.seat i with ramp := 0, fadeReport := none, micNow := [], micNext := [], feedNow := [],
                            feedLast := [] } =
        { s.seat i with ramp := 0, fadeReport := none, micNow := [], micNext := [], feedNow := [],
                        feedLast := [] }) ∧
      { t with seats := s.seats, secA := s.secA, secB := s.secB, mdp := s.mdp, place := 0, steps := 0,
               out1 := 0, out2 := 0 } = { s with place := 0, steps := 0, out1 := 0, out2 := 0 } ∧
      NoticesOnly s.mdp t.mdp ∧
      ((∀ x, (s.sect x).busClip ≠ 0 ∨ (t.sect x).busClip = 0) →
        (∀ x, (s.sect x).feedClip ≠ 0 ∨ (t.sect x).feedClip = 0) → t.mdp = s.mdp) ∧
      let note (x : Sect) (i : Option Seat) (c : ClipCounter) (v : Int) : Notice :=
        { sect := some x, seat := i, minute := s.minute, second := s.second,
          detail := .clip c (if 8388607 < v then .positive else .negative) }
      let busNote (x : Sect) : List Notice :=
        if (s.sect x).busClip = 0 ∧ saturate (u x) ≠ u x then [note x none .bus (u x)] else []
      let feedNote (x : Sect) : List Notice :=
        match (List.finRange 48).find? fun i => s.sectionOf i = x ∧ (s.seat i).presence = .ready ∧
            (s.seat i).mic = .closed ∧ saturate (w i) ≠ w i with
        | some i => if (s.sect x).feedClip = 0 then [note x (some i) .feed (w i)] else []
        | none => []
      t.mdp = (busNote .a ++ feedNote .a ++ busNote .b ++ feedNote .b).foldl (fun r n => joinQueue n r) s.mdp)

/-- The frame count is 0 after reset, equals the place of the frame in its cycle of 960 modulo 16, and
advances by one, from 15 to 0, with each frame taken; the ramps step in the frames of count 15 alone; every
command but a frame and a hardware reset leaves it as it stands (R112). -/
def Obligations.FrameCountAdvances : Prop :=
  State.reset.frameCount = 0 ∧
  (∀ s t, exec .hardwareReset s = .next t → t.frameCount = 0) ∧
  (∀ s : State, s.frameCount = s.place % 16) ∧
  (∀ s : State, s.starting = false → s.place ≤ 959 → ∃ t, exec .audioFrame s = .next t ∧
    t.place = (s.place + 1) % 960 ∧ t.frameCount = (s.frameCount + 1) % 16 ∧
    (s.frameCount ≠ 15 → ∀ i, (t.seat i).ramp = (s.seat i).ramp)) ∧
  ∀ (c : Instr) (s t : State), c ≠ .audioFrame → c ≠ .rampStep → c ≠ .hardwareReset → exec c s = .next t →
    t.place = s.place ∧ t.frameCount = s.frameCount

/-- At the end of a step frame, the one with count 15, the outputs have been computed from the ramp levels
as they stood, and every ramp on the table steps by its mic state: ACTIVE rises by one below 32, SUSPENDED
and CLOSING fall by one above 0, CLOSED and PENDING stand at 0; 32 steps lead from 0 to 32, where an ACTIVE
seat stays (R113); a CLOSING seat at 0 after the step is reported to the floor controller, and one whose
report waits keeps that report (R114). RAMP_STEP acts as the whole frame when that has count 15 and changes
nothing in any other (assumption 4); that a report waits in State, with the number of its step frame, is the
model's form (assumption 5). -/
def Obligations.RampsStep : Prop :=
  (∀ (s : State) (c : Instr), s.starting = false → s.frameCount = 15 → c = .audioFrame ∨ c = .rampStep →
    ∃ t, exec c s = .next t ∧ t.out1 = saturate (s.sectFrame .a).u ∧
      t.out2 = (match s.mode with
        | .divided => saturate (s.sectFrame .b).u
        | .joined => saturate (s.sectFrame .a).u) ∧
      ∀ i, (t.seat i).mic = (s.seat i).mic ∧ (t.seat i).slot = (s.seat i).slot ∧
        ((s.seat i).mic = .active →
          (t.seat i).ramp = if (s.seat i).ramp < 32 then (s.seat i).ramp + 1 else (s.seat i).ramp) ∧
        ((s.seat i).mic = .suspended ∨ (s.seat i).mic = .closing →
          (t.seat i).ramp = if 0 < (s.seat i).ramp then (s.seat i).ramp - 1 else 0) ∧
        ((s.seat i).mic = .closed ∨ (s.seat i).mic = .pending → (t.seat i).ramp = 0) ∧
        (t.seat i).fadeReport = (if (s.seat i).mic = .closing ∧ (t.seat i).ramp = 0 then
          some ((s.seat i).fadeReport.getD s.steps) else (s.seat i).fadeReport) ∧ t.steps = s.steps + 1) ∧
  (∀ s : State, s.starting = true ∨ s.frameCount ≠ 15 → exec .rampStep s = .next s) ∧
  (∀ s : State, s.frameCount = 15 → s.starting = false → exec .rampStep s = exec .audioFrame s) ∧
  Nat.repeat (stepRamp .active) 32 0 = 32 ∧ stepRamp .active 32 = 32 ∧ stepRamp .suspended 0 = 0

/-! ### Fades, counting, timers (spec/04 5.4, spec/05, spec/10) -/

/-- The fade complete reports are taken in the order they were made: those of an earlier step frame first,
those of one step frame in ascending seat number (R114); one of those that wait is the first. A report taken
while the seat is still CLOSING makes its mic CLOSED with ramp level 0 and frees its slot, and the event
leaves no free slot beside an eligible PENDING seat (R70, R67); taken in the states CLOSED, ACTIVE and
SUSPENDED it leaves the mic, its ramp and its slot as they are. The rest is the frame of an event at the
floor of its section. That a seat's FADE_COMPLETE changes nothing where its report is not the first that
waits is the model's form of the report (assumption 5). The slot arbiter of a section: it gives free slots
to the PENDING acting chairs, and with priority off to the PENDING acting delegates after them, the oldest
admission stamp first in each and of equal stamps the lower seat number, until no slot is free or no
eligible seat waits (R67, R64). The seat it serves first takes the lowest free slot and becomes ACTIVE with
ramp level 0, its stamp and opened-by-priority flag kept and, for a delegate, a turn of the full budget; no
seat that is not PENDING is changed (R68). -/
def Obligations.FadeCompletionFreesTheSlot : Prop :=
  (∀ (i : Seat) (s : State),
     let x := s.sectionOf i
     let first (j : Seat) : Prop := (s.seat j).fadeReport.isSome = true ∧
       ∀ h, (s.seat h).fadeReport.isSome = true →
         (s.seat j).fadeReport.getD 0 < (s.seat h).fadeReport.getD 0 ∨
           (s.seat j).fadeReport = (s.seat h).fadeReport ∧ j ≤ h
     ((s.seat i).fadeReport ≠ none → ∃ j, first j) ∧
     (¬ first i → exec (.fadeComplete i) s = .next s) ∧
     (first i → QueuesFit s → ∃ t, exec (.fadeComplete i) s = .next t ∧
       FloorFrame x s t ∧ (t.seat i).fadeReport = none ∧
       (MicsFit s → (t.freeSlot x = none ∨ ∀ j, ¬ t.eligible x j)) ∧
       ((s.seat i).mic = .closing →
         (t.seat i).mic = .closed ∧ (t.seat i).ramp = 0 ∧ (t.seat i).slot = none) ∧
       ((s.seat i).mic = .closed ∨
           ((s.seat i).mic = .active ∨ (s.seat i).mic = .suspended) ∧ (s.sect x).state ≠ .overrun →
         (t.seat i).mic = (s.seat i).mic ∧ (t.seat i).ramp = (s.seat i).ramp ∧
           (t.seat i).slot = (s.seat i).slot))) ∧
  (∀ (s : State) (x : Sect), MicsFit s →
     let t := State.arbiter 8 x s
     (t.freeSlot x = none ∨ ∀ j, ¬ t.eligible x j) ∧
     (∀ j, (s.seat j).mic ≠ .pending ∨ ¬ s.eligible x j → SameFloor (s.seat j) (t.seat j)) ∧
     (s.freeSlot x = none → t = s) ∧
     ∀ i k, s.eligible x i → s.freeSlot x = some k →
       (∀ j, s.eligible x j → j ≠ i → ((s.seat i).isChair = true ∧ (s.seat j).isChair = false) ∨
         (s.seat i).isChair = (s.seat j).isChair ∧ olderStamp s i j = true) →
       (t.seat i).mic = .active ∧ (t.seat i).slot = some k ∧ (t.seat i).ramp = 0 ∧
         (t.seat i).stamp = (s.seat i).stamp ∧ (t.seat i).byPriority = (s.seat i).byPriority ∧
         ((s.seat i).isDelegate = true → (t.seat i).turn =
           some (startTurn ((s.sect x).settings.budget * 10) (s.sect x).settings.warn)))

/-- A count event of a section raises the cumulative speaking seconds of each of its ACTIVE seats by one, to
at most 65535, whatever its role and turn, and of no other seat (R97). A running limited turn of an ACTIVE
seat loses one second: under CLOSE not below 0, under NOTIFY not below −3600; at the warning time the warned
flag is set and at 0 the expired flag, with a report to the floor controller under CLOSE (R88 to R91); no
other turn changes. That an expiry report waits in the turn, and that a timer that has run out waits to be
taken, is the model's form (assumption 5). The section's grace and idle timers, where they run, lose one
second and run out at 0; a stopped one and one that has run out stay (R175). EXPIRED acts as that whole
count event when it brings the seat's turn to 0 (assumption 4). The TURN notices of a count event, at the
chair ports of the section and at no other port, its ACTIVE seats in ascending order: CAP at the second that
brings a seat's cumulative seconds to the cap, WARNING where a counting turn comes to the warning time
unwarned, EXPIRED where it comes to 0, each with the fields of R101 as they then stand (R89 to R91, R100,
R101). The held flag of a seat without a turn is the model's choice (assumption 34), its other absent fields
assumption 21. -/
def Obligations.CountEventCounts : Prop :=
  (∀ (x : Sect) (s : State), s.starting = false → ∀ c : Instr,
     (c = .countEvent x ∨ ∃ j, c = .expired j ∧ s.sectionOf j = x ∧ s.expiresNext j = true) →
     ∃ t, exec c s = .next t ∧ SameBase s t ∧ t.bookings = s.bookings ∧
       (∀ i, SameUnit (s.seat i) (t.seat i)) ∧
       (∀ i, (t.seat i).mic = (s.seat i).mic ∧ (t.seat i).slot = (s.seat i).slot ∧
         (t.seat i).ramp = (s.seat i).ramp ∧ (t.seat i).stamp = (s.seat i).stamp ∧
         (t.seat i).part = (s.seat i).part ∧ (t.seat i).byPriority = (s.seat i).byPriority) ∧
       (∀ i, s.sectionOf i = x → (s.seat i).mic = .active →
         (t.seat i).cumul = if (s.seat i).cumul < 65535 then (s.seat i).cumul + 1 else 65535) ∧
       (∀ i, s.sectionOf i ≠ x ∨ (s.seat i).mic ≠ .active →
         (t.seat i).cumul = (s.seat i).cumul ∧ (t.seat i).turn = (s.seat i).turn) ∧
       (∀ i q, s.sectionOf i = x → (s.seat i).mic = .active → (s.seat i).turn = some q →
         let p := (s.sect x).settings
         (q.budget = 0 ∨ (s.sect x).clockHold = true ∨ (p.expiry = .close ∧ q.remaining ≤ 0) ∨
             q.remaining ≤ -3600 → (t.seat i).turn = some q) ∧
         (q.budget ≠ 0 → (s.sect x).clockHold = false → (p.expiry = .close → 0 < q.remaining) →
             -3600 < q.remaining →
           (t.seat i).turn = some
             { budget := q.budget, remaining := q.remaining - 1,
               warned := q.warned || (p.warn != 0 && q.remaining - 1 == (p.warn : Int)),
               expired := q.expired || q.remaining - 1 == 0,
               reported := q.reported || (q.remaining - 1 == 0 && p.expiry == .close) })) ∧
       (let counted (a b : Timer) : Prop :=
          (∀ n, a = .running n → b = if 1 < n then .running (n - 1) else .runOut) ∧ (a = .stopped → b = .stopped) ∧
          (a = .runOut → b = .runOut)
        counted (s.sect x).grace (t.sect x).grace ∧ counted (s.sect x).idle (t.sect x).idle) ∧
       (∀ y, { t.sect y with grace := .stopped, idle := .stopped } =
         { s.sect y with grace := .stopped, idle := .stopped }) ∧
       ∀ y, y ≠ x → t.sect y = s.sect y) ∧
  (∀ (x : Sect) (s : State), s.starting = false →
     let g := s.sect x
     let p := g.settings
     let turnNote (i : Seat) (e : TurnEvent) (q : Option Turn) (seconds : Nat) (held : Bool) : Notice :=
       { sect := some x, seat := some i, minute := s.minute, second := s.second,
         detail := .turn e (q.map fun t => t.budget) (q.map fun t => t.remaining)
           (q.any fun t => t.warned) (q.any fun t => t.expired) none seconds held }
     let told (i : Seat) : List Notice :=
       let r := s.seat i
       let seconds := if r.cumul < 65535 then r.cumul + 1 else 65535
       (if p.cap ≠ 0 ∧ r.cumul + 1 = p.cap * 60 ∧ r.cumul < 65535 then
         [turnNote i .cap r.turn seconds (r.turn.isSome && g.clockHold)] else []) ++
       match r.turn with
       | none => []
       | some q =>
         if q.budget = 0 ∨ g.clockHold = true ∨ (p.expiry = .close ∧ q.remaining ≤ 0) ∨ q.remaining ≤ -3600 then []
         else
           let left := q.remaining - 1
           let warns : Bool := p.warn ≠ 0 ∧ left = (p.warn : Int) ∧ q.warned = false
           let after : Turn := { q with remaining := left, warned := q.warned || warns,
                                        expired := q.expired || decide (left = 0) }
           (if warns then [turnNote i .warning (some after) seconds false] else []) ++
           (if left = 0 then [turnNote i .expired (some after) seconds false] else [])
     ∃ t, exec (.countEvent x) s = .next t ∧
       (∀ q, q ∉ s.chairPorts x → t.port q = s.port q) ∧
       ∀ q, q ∈ s.chairPorts x → t.port q =
         ((s.seatsWhere x fun r => r.mic = .active).flatMap told).foldl (fun r n => joinQueue n r) (s.port q))

/-- A report of a turn's expiry taken while the seat is still ACTIVE closes it: its mic goes to CLOSING with
its slot and ramp, its stamp and turn are gone, and FLOOR CLOSED of reason EXPIRED is told first; taken in
any other state it changes nothing but the report itself (R73, R90). That EXPIRY_CLOSE changes nothing with
no report to take, and EXPIRED nothing where the next count event would not bring the seat's turn to 0, is
the model's choice (assumptions 5 and 4). -/
def Obligations.ExpiryReportCloses : Prop :=
  ∀ (i : Seat) (s : State),
    (s.starting = true ∨ s.expiresNext i = false → exec (.expired i) s = .next s) ∧
    ((s.seat i).turn = none → exec (.expiryClose i) s = .next s) ∧
    ∀ q, (s.seat i).turn = some q →
      (q.reported = false → exec (.expiryClose i) s = .next s) ∧
      (q.reported = true → (s.seat i).mic ≠ .active →
        exec (.expiryClose i) s =
          .next (s.modSeat i fun r => { r with turn := some { q with reported := false } })) ∧
      (q.reported = true → (s.seat i).mic = .active → QueuesFit s → s.queueEntry (s.sectionOf i) i = none →
        ∃ t, exec (.expiryClose i) s = .next t ∧ FloorFrame (s.sectionOf i) s t ∧
          (t.seat i).mic = .closing ∧ (t.seat i).slot = (s.seat i).slot ∧
          (t.seat i).ramp = (s.seat i).ramp ∧ (t.seat i).stamp = none ∧ (t.seat i).turn = none ∧
          ∃ post, Tells s t
            (s.closedTold (s.sectionOf i) .expired (s.delegateCount (s.sectionOf i)) [i] ++ post))

/-- END from the port that commands a running section, a grace expiry in GRACE and an idle expiry in SESSION
or ENDING each end the section's session as one event: floor, record, session parts and booking as R185
gives them, and, in this order and with no other notice, FLOOR CLOSED of reason ENDED for each seat on the
floor, QUEUE CLEARED, the SESSION notice of reason END, NO_SHOW or IDLE, and BOOKING REMOVED with that end
reason. END answers with the booking id that ended. END in FREE is refused WRONG_STATE, and an expiry that
finds another state changes nothing (R184, R176, R183, R81, R35, R168, R185, R188). That an expiry waits as
a timer that has run out, and changes nothing where none has, is the model's choice (assumption 5). -/
def Obligations.SessionEndsFreeTheSection : Prop :=
  ∀ (x : Sect) (s : State),
    ((s.sect x).state = .grace → (s.sect x).grace = .runOut →
      ∃ t, exec (.graceExpiry x) s = .next t ∧ SessionEnded x s t ∧ Tells s t (s.endTold x .noShow .noShow)) ∧
    ((s.sect x).state ≠ .grace ∨ (s.sect x).grace ≠ .runOut → exec (.graceExpiry x) s = .next s) ∧
    ((s.sect x).state = .session ∨ (s.sect x).state = .ending → (s.sect x).idle = .runOut →
      ∃ t, exec (.idleExpiry x) s = .next t ∧ SessionEnded x s t ∧ Tells s t (s.endTold x .idle .idle)) ∧
    ((s.sect x).state ≠ .session ∧ (s.sect x).state ≠ .ending ∨ (s.sect x).idle ≠ .runOut →
      exec (.idleExpiry x) s = .next s) ∧
    ∀ p, s.takesFrom p → s.commanded p = some x →
      ((s.sect x).state.running = true →
        ∃ t, exec (.endMeeting p []) s = .next t ∧ SessionEnded x s t ∧
          AnsweredAt s t p 0x22 0 .ok (opt16 (s.sect x).booking) ∧
          Tells (s.accepted p 0) t (s.endTold x .end_ .end_)) ∧
      ((s.sect x).state.running = false →
        exec (.endMeeting p []) s = .next (s.answers p 0x22 0 .wrongState []))

/-- The REQUEST press of an acting delegate in PRESS or TOGGLE mode, the next event of its READY seat in
SESSION: an idle seat is refused, DENIED, at the seat cap and at a full queue; it is queued last, stamped by
the request counter, while priority is on, in CHAIR mode, and in QUEUE mode at the limit or behind other
entries; below the limit it is granted in OPEN mode, and in QUEUE mode with an empty queue. A pending or
active seat closes (R17, R37, R38, R42, R43, R45, R48). In SESSION and ENDING a queued seat's press has no
effect in PRESS mode and withdraws the entry in TOGGLE mode, a SUSPENDED seat's has none (R37, R38); in OPEN
mode at the limit the oldest ACTIVE delegate is closed and the seat granted where override is on, else it
queues (R42, R44). A PTT press is an open attempt: refused at the cap, while priority is on, in CHAIR mode,
in QUEUE mode behind another's entry, and at the limit unless override admits it, otherwise granted; on the
floor it does nothing, a release closes (R39, R46). A chair's REQUEST press grants its CLOSED or CLOSING
mic, closes a PENDING or ACTIVE one and clears its opened-by-priority flag; its release does nothing (R40).
Its PRIORITY press, from no DELEGATE_UNIT, makes it a holder, suspends every ACTIVE delegate where priority
was off and opens its idle mic by priority; its release ends that, and where the set empties, MUTE resumes
and CANCEL closes the delegates (R41, R77, R78, R79). In FREE and MERGED keys only count as taken, as a
PRIORITY event of a DELEGATE_UNIT and a release in GRACE do; a press in GRACE checks the section in and is
then acted on; in OVERRUN requests are refused, and the close of the last speaking delegate ends the session
(R36, R18, R176, R182). A refusal tells QUEUE NONE with its cause, an entry, a withdrawal, a grant and a
close their QUEUE and FLOOR notices, first, a check-in SESSION (R58, R83, R188); the place of a queued PTT
seat's removal in an override is the model's choice (assumption 32). -/
def Obligations.KeyPressIsDecided : Prop :=
  (∀ (d : Side) (pos : Fin 24) (m : UpMsg) (s : State) (firstSeq : Nat) (ackRing ackPlate : Option Nat)
     (mic : List Int), (s.ring d).visit = some pos → m.checkOk = true → m.lengthOk = true →
     m.position = pos.val → m.configured = true →
     m.content = .ready firstSeq [.requestPress] ackRing ackPlate mic →
     let i := seatAt d pos
     let x := s.sectionOf i
     let r := s.sect x
     (s.seat i).presence = .ready → (s.seat i).expectSeq = firstSeq → firstSeq < 256 →
     r.state = .session → (s.seat i).isDelegate = true →
     r.settings.keyMode = .press ∨ r.settings.keyMode = .toggle →
     let idle : Prop := ((s.seat i).mic = .closed ∨ (s.seat i).mic = .closing) ∧ s.queueEntry x i = none
     let below : Prop := s.delegateCount x < r.settings.limit
     let mode := r.settings.floorMode
     let waits : Prop := s.priorityOn x = true ∨ mode = .chair ∨ mode = .queue ∧ (¬ below ∨ r.queue ≠ [])
     let same (t : State) : Prop := SameFloor (s.seat i) (t.seat i)
     ∃ t, exec (.answerArrival d m) s = .next t ∧ (t.seat i).expectSeq = (firstSeq + 1) % 256 ∧
       (idle → s.capReached x i = true ∨ waits ∧ 24 ≤ r.queue.length →
         (t.sect x).queue = r.queue ∧ (t.seat i).denyTag = ((s.seat i).denyTag + 1) % 256 ∧ same t) ∧
       (idle → s.capReached x i = false → waits → r.queue.length < 24 →
         (t.sect x).queue = r.queue ++ [⟨i, .normal, r.reqCtr⟩] ∧
         (t.sect x).reqCtr = (if r.reqCtr < 65534 then r.reqCtr + 1 else 1) ∧
         (t.seat i).denyTag = (s.seat i).denyTag ∧ same t) ∧
       (idle → s.capReached x i = false → ¬ waits → below → Granted x i s t) ∧
       ((s.seat i).mic = .pending ∨ (s.seat i).mic = .active → s.queueEntry x i = none → ClosedSeat i s t)) ∧
  (∀ (d : Side) (pos : Fin 24) (m : UpMsg) (e : KeyEvent) (s : State), KeyArrives d pos m e s → QueuesFit s →
     let i := seatAt d pos
     let x := s.sectionOf i
     let g := s.sect x
     let p := g.settings
     let u := s.heard d pos m
     g.state = .session ∨ g.state = .ending → (s.seat i).isDelegate = true → (s.seat i).isChair = false →
     let off : Prop := (s.seat i).mic = .closed ∨ (s.seat i).mic = .closing
     let below : Prop := s.delegateCount x < p.limit
     let candidate (j : Seat) : Prop := p.override = true ∧ s.speaksAsDelegate x j ∧
       ∀ h, s.speaksAsDelegate x h → h ≠ j → olderStamp s j h = true
     let open_ : Prop := s.capReached x i = false ∧ s.priorityOn x = false
     let queued : Prop := s.queueEntry x i ≠ none
     let behind : Prop := p.floorMode = .queue ∧ ∃ q, q ∈ g.queue ∧ q.seat ≠ i
     ∃ t, exec (.answerArrival d m) s = .next t ∧ FloorFrame x u t ∧
       (e = .requestPress → p.keyMode ≠ .ptt →
         (off → queued → SameFloor (s.seat i) (t.seat i) ∧
           (t.sect x).queue = if p.keyMode = .toggle then g.queue.filter (fun q => q.seat ≠ i) else g.queue) ∧
         ((s.seat i).mic = .suspended → SameFloor (s.seat i) (t.seat i) ∧ (t.sect x).queue = g.queue) ∧
         (off → ¬ queued → open_ → p.floorMode = .open_ → ¬ below →
           (∀ j, candidate j → ClosedSeat j s t ∧ Granted x i s t) ∧
           ((∀ j, ¬ candidate j) → g.queue.length < 24 →
             (t.sect x).queue = g.queue ++ [⟨i, .normal, g.reqCtr⟩] ∧ SameFloor (s.seat i) (t.seat i)))) ∧
       (e = .requestPress → p.keyMode = .ptt →
         (off → ¬ open_ ∨ p.floorMode = .chair ∨ behind ∨ ¬ below ∧ (p.floorMode = .open_ → ∀ j, ¬ candidate j) →
           SameFloor (s.seat i) (t.seat i) ∧ (t.sect x).queue = g.queue ∧
             (t.seat i).denyTag = ((s.seat i).denyTag + 1) % 256) ∧
         (off → open_ → p.floorMode ≠ .chair → ¬ behind → below → Granted x i s t) ∧
         (off → open_ → p.floorMode = .open_ → ¬ below → ∀ j, candidate j →
           ClosedSeat j s t ∧ Granted x i s t) ∧
         (¬ off → (s.seat i).mic ≠ .pending → SameFloor (s.seat i) (t.seat i) ∧ (t.sect x).queue = g.queue)) ∧
       (e = .requestRelease →
         (p.keyMode = .ptt → ¬ off → ¬ queued → ClosedSeat i s t) ∧
         (p.keyMode ≠ .ptt ∨ off → (s.seat i).mic ≠ .pending →
           SameFloor (s.seat i) (t.seat i) ∧ (t.sect x).queue = g.queue))) ∧
  (∀ (d : Side) (pos : Fin 24) (m : UpMsg) (e : KeyEvent) (s : State), KeyArrives d pos m e s → QueuesFit s →
     let i := seatAt d pos
     let x := s.sectionOf i
     let g := s.sect x
     let u := s.heard d pos m
     g.state.floorOpen = true → (g.state = .overrun → s.speakingDelegates x ≠ 0) →
     (s.seat i).isChair = true → (∀ j, (s.seat j).mic.onFloor = true ∨ j = i → s.queueEntry x j = none) →
     let off : Prop := (s.seat i).mic = .closed ∨ (s.seat i).mic = .closing
     let holds (q : SectRec) : Prop := i ∈ q.holders
     (e = .requestPress → ∃ t, exec (.answerArrival d m) s = .next t ∧ FloorFrame x u t ∧
       (t.seat i).byPriority = false ∧ (off → Granted x i s t) ∧
       ((s.seat i).mic = .pending ∨ (s.seat i).mic = .active → ClosedSeat i s t)) ∧
     (e = .requestRelease → ∃ t, exec (.answerArrival d m) s = .next t ∧ FloorFrame x u t ∧
       ((s.seat i).mic ≠ .pending → SameFloor (s.seat i) (t.seat i))) ∧
     ((s.seat i).kind ≠ some .delegateUnit →
       (e = .priorityPress → ∃ t, exec (.answerArrival d m) s = .next t ∧ FloorFrame x u t ∧
         holds (t.sect x) ∧ t.priorityOn x = true ∧
         (¬ holds g → off → Granted x i s t ∧ (t.seat i).byPriority = true) ∧
         (s.priorityOn x = false → ∀ j, s.sectionOf j = x → (s.seat j).isDelegate = true → j ≠ i →
           (s.seat j).mic = .active → (t.seat j).mic = .suspended ∧ (t.seat j).slot = (s.seat j).slot ∧
             (t.seat j).ramp = (s.seat j).ramp ∧ (t.seat j).stamp = (s.seat j).stamp)) ∧
       (e = .priorityRelease → (∀ j, s.sectionOf j = x → (s.seat j).mic ≠ .suspended ∨ g.state ≠ .overrun) →
         ∃ t, exec (.answerArrival d m) s = .next t ∧ FloorFrame x u t ∧
         ¬ holds (t.sect x) ∧ (t.sect x).console = g.console ∧
         (holds g → (s.seat i).byPriority = true → (s.seat i).mic.onFloor = true → ClosedSeat i s t) ∧
         (g.holders = [i] → g.console = false → ∀ j, s.sectionOf j = x → (s.seat j).isDelegate = true → j ≠ i →
           ((s.seat j).mic = .suspended → g.settings.prioMode = .mute →
             (t.seat j).mic = .active ∧ (t.seat j).slot = (s.seat j).slot ∧
               (t.seat j).ramp = (s.seat j).ramp ∧ (t.seat j).stamp = (s.seat j).stamp) ∧
           ((s.seat j).mic = .suspended ∨ (s.seat j).mic = .pending → g.settings.prioMode = .cancel →
             ClosedSeat j s t))))) ∧
  (∀ (d : Side) (pos : Fin 24) (m : UpMsg) (e : KeyEvent) (s : State), KeyArrives d pos m e s → QueuesFit s →
     let i := seatAt d pos
     let x := s.sectionOf i
     let g := s.sect x
     let u := s.heard d pos m
     let isPress : Prop := e = .requestPress ∨ e = .priorityPress
     let off : Prop := (s.seat i).mic = .closed ∨ (s.seat i).mic = .closing
     (g.state = .free ∨ g.state = .merged ∨
         (e = .priorityPress ∨ e = .priorityRelease) ∧ (s.seat i).kind = some .delegateUnit ∨
         g.state = .grace ∧ ¬ isPress →
       exec (.answerArrival d m) s = .next u) ∧
     (g.state = .grace → isPress → (e = .priorityPress → (s.seat i).kind ≠ some .delegateUnit) →
       ∃ t, exec (.answerArrival d m) s = .next t ∧ FloorFrame x u t ∧ (t.sect x).grace = .stopped ∧
         (t.sect x).state = (if s.endingDue x then .ending else .session) ∧
         (e = .requestPress → (s.seat i).isDelegate = true → (s.seat i).isChair = false → off →
           s.queueEntry x i = none → s.capReached x i = false → s.priorityOn x = false →
           g.settings.floorMode = .open_ → s.delegateCount x < g.settings.limit → Granted x i s t)) ∧
     (g.state = .overrun → e = .requestPress → (s.seat i).isDelegate = true → (s.seat i).isChair = false →
       (off → s.queueEntry x i = none → s.speakingDelegates x ≠ 0 →
         (∀ j, s.sectionOf j = x → (s.seat j).mic ≠ .pending) →
         ∃ t, exec (.answerArrival d m) s = .next t ∧ FloorFrame x u t ∧ SameFloor (s.seat i) (t.seat i) ∧
           (t.sect x).queue = g.queue ∧ (t.seat i).denyTag = ((s.seat i).denyTag + 1) % 256) ∧
       ((s.seat i).mic = .active → g.settings.keyMode ≠ .ptt →
         (∀ j, s.sectionOf j = x → (s.seat j).mic ≠ .pending ∧
           (j ≠ i → (s.seat j).isDelegate = true → (s.seat j).mic.onFloor = false)) →
         ∃ t, exec (.answerArrival d m) s = .next t ∧ SessionEnded x u t))) ∧
  (∀ (d : Side) (pos : Fin 24) (m : UpMsg) (e : KeyEvent) (s : State), KeyArrives d pos m e s → QueuesFit s →
     let i := seatAt d pos
     let x := s.sectionOf i
     let g := s.sect x
     let p := g.settings
     let n := s.delegateCount x
     let tells (l : List (List Port × Notice)) : Prop := ∃ t post, exec (.answerArrival d m) s = .next t ∧
       Tells s t (l ++ post) ∧ (s.settled x → g.queue = [] → post = [])
     let off : Prop := (s.seat i).mic = .closed ∨ (s.seat i).mic = .closing
     let below : Prop := n < p.limit
     let candidate (j : Seat) : Prop := p.override = true ∧ s.speaksAsDelegate x j ∧
       ∀ h, s.speaksAsDelegate x h → h ≠ j → olderStamp s j h = true
     let last := g.queue.length + 1
     let added : List (List Port × Notice) :=
       [s.queueTo x (some i) .added .request none (some ⟨i, .normal, g.reqCtr⟩) (some last) last]
     let taken := s.removalTold x i .granted ++ s.grantTold x i .request n
     let byOverride (j : Seat) := s.closedTold x .overridden n [j] ++ s.removalTold x i .granted ++
       s.grantTold x i .override (n - 1)
     (g.state = .session ∨ g.state = .ending → (s.seat i).isDelegate = true → (s.seat i).isChair = false →
       (e = .requestPress → p.keyMode ≠ .ptt → off → s.queueEntry x i = none →
         let waits : Prop := s.priorityOn x = true ∨ p.floorMode = .chair ∨
           p.floorMode = .queue ∧ (¬ below ∨ g.queue ≠ []) ∨ p.floorMode = .open_ ∧ ¬ below ∧ ∀ j, ¬ candidate j
         (s.capReached x i = true → tells (s.refusalTold x i .cap)) ∧
         (s.capReached x i = false → waits → 24 ≤ g.queue.length → tells (s.refusalTold x i .full)) ∧
         (s.capReached x i = false → waits → g.queue.length < 24 → tells added) ∧
         (s.capReached x i = false → ¬ waits → below → tells taken) ∧
         (s.capReached x i = false → ¬ waits → ¬ below → ∀ j, candidate j → tells (byOverride j))) ∧
       (e = .requestPress → p.keyMode = .toggle → off → s.queueEntry x i ≠ none →
         tells (s.removalTold x i .withdrawn)) ∧
       (e = .requestPress → p.keyMode = .ptt → off →
         let behind : Prop := p.floorMode = .queue ∧ ∃ q, q ∈ g.queue ∧ q.seat ≠ i
         (s.capReached x i = true → tells (s.refusalTold x i .cap)) ∧
         (s.capReached x i = false → s.priorityOn x = true → tells (s.refusalTold x i .priority)) ∧
         (s.capReached x i = false → s.priorityOn x = false →
           (p.floorMode = .chair ∨ behind → tells (s.refusalTold x i .floor)) ∧
           (p.floorMode ≠ .chair → ¬ behind →
             (below → tells taken) ∧
             (¬ below → (p.floorMode = .open_ → ∀ j, ¬ candidate j) → tells (s.refusalTold x i .limit)) ∧
             (¬ below → p.floorMode = .open_ → ∀ j, candidate j → tells (byOverride j))))) ∧
       (¬ off → (s.seat i).mic ≠ .suspended ∨ p.keyMode = .ptt →
         e = .requestPress ∧ p.keyMode ≠ .ptt ∨ e = .requestRelease ∧ p.keyMode = .ptt →
         tells (s.closedTold x .key n [i]))) ∧
     (g.state = .grace → e = .requestPress ∨ e = .priorityPress ∧ (s.seat i).kind ≠ some .delegateUnit →
       ∃ t post, exec (.answerArrival d m) s = .next t ∧
         Tells s t (s.sessionTo x .grace (if s.endingDue x then .ending else .session) .checkIn (some .key)
           (some i) (s.runningBooking x) g.loaded :: post)))

/-! ### Chair commands on the queue and the floor (spec/03 4.6, spec/04, spec/05) -/

/-- GRANT and NEXT. GRANT of a seat outside the section is refused RANGE; in FREE and GRACE both are refused
WRONG_STATE, and so are they in OVERRUN and while priority is on, and GRANT of an acting chair, of a seat
that is not READY or of one on the floor; NEXT with an empty queue is refused NOT_FOUND; at the limit both
are refused LIMIT. Otherwise the named seat, or the head of the queue, is granted, and the answer holds its
mic state (R51, R52, R53, R62, R63); the notices are QUEUE REMOVED of reason GRANTED for an entry it had,
FLOOR OPENED or PENDING of reason GRANT or NEXT, and TURN WARNING for a turn that starts warned, and no
others where no free slot waited beside an eligible seat (R49, R58, R83, R87). Where no free slot waited so,
a seat that owns a source and becomes ACTIVE by the grant is the FOLLOW presenter then, with presenter
follows speaker on and no EXPLICIT presenter; else the presenter stays (R135). A refusal changes nothing but
the section's idle timer, which the command retriggers (R183). The free slot that a grant takes is one of
eight, held by no seat of the section, with every lower slot held; a grant of a CLOSED mic that finds one
makes the seat ACTIVE in it and changes no other seat's floor part (R62, R66). -/
def Obligations.GrantAndNextGiveTheFloor : Prop :=
  (∀ (p : Port) (x : Sect) (s : State), QueuesFit s → s.takesFrom p → s.commanded p = some x →
     let u := s.retriggerIdle x
     let full : Prop := (s.sect x).settings.limit ≤ s.delegateCount x
     let presents (i : Seat) (m : Mic) : Option (Seat × Origin) :=
       if m = .active ∧ (s.sect x).settings.follows = true ∧ (s.ownsSource i).isSome = true ∧
           ((s.sect x).presenter.map fun q => q.2) ≠ some .explicit then some (i, .follow)
       else (s.sect x).presenter
     (∀ payload : List Byte, payload.length = 1 →
       (seatOf? (byteAt payload 0) = none →
         exec (.grant p payload) s = .next (u.answers p 0x24 1 .range [])) ∧
       ∀ i, seatOf? (byteAt payload 0) = some i →
         (s.sectionOf i ≠ x → exec (.grant p payload) s = .next (u.answers p 0x24 1 .range [])) ∧
         (s.sectionOf i = x →
           let barred : Prop := (s.sect x).state = .overrun ∨ s.priorityOn x = true ∨
             (s.seat i).isChair = true ∨ (s.seat i).presence ≠ .ready ∨ (s.seat i).mic.onFloor = true
           ((s.sect x).state.floorOpen = false ∨ barred →
             exec (.grant p payload) s = .next (u.answers p 0x24 1 .wrongState [])) ∧
           ((s.sect x).state.floorOpen = true → ¬ barred → full →
             exec (.grant p payload) s = .next (u.answers p 0x24 1 .limit [])) ∧
           ((s.sect x).state.floorOpen = true → ¬ barred → ¬ full →
             ∃ t, exec (.grant p payload) s = .next t ∧ FloorFrame x s t ∧ Granted x i s t ∧
               AnsweredAt s t p 0x24 1 .ok (enc8 (t.seat i).mic.code) ∧
               ∃ post, Tells (s.accepted p 1) t (s.removalTold x i .granted ++
                 s.grantTold x i .grant (s.delegateCount x) ++ post) ∧
                 (s.settled x → post = [] ∧ (t.sect x).presenter = presents i (t.seat i).mic)))) ∧
     ((s.sect x).state.floorOpen = false ∨ (s.sect x).state = .overrun ∨ s.priorityOn x = true →
       exec (.nextSeat p []) s = .next (u.answers p 0x28 0 .wrongState [])) ∧
     ((s.sect x).state = .session ∨ (s.sect x).state = .ending → s.priorityOn x = false →
       ((s.sect x).queue = [] → exec (.nextSeat p []) s = .next (u.answers p 0x28 0 .notFound [])) ∧
       ∀ e rest, (s.sect x).queue = e :: rest →
         (full → exec (.nextSeat p []) s = .next (u.answers p 0x28 0 .limit [])) ∧
         (¬ full → s.sectionOf e.seat = x → (s.seat e.seat).mic = .closed ∨ (s.seat e.seat).mic = .closing →
           ∃ t, exec (.nextSeat p []) s = .next t ∧ FloorFrame x s t ∧ Granted x e.seat s t ∧
             AnsweredAt s t p 0x28 0 .ok (enc8 e.seat.val ++ enc8 (t.seat e.seat).mic.code) ∧
             ∃ post, Tells (s.accepted p 0) t (s.removalTold x e.seat .granted ++
               s.grantTold x e.seat .next (s.delegateCount x) ++ post) ∧
               (s.settled x → post = [] ∧ (t.sect x).presenter = presents e.seat (t.seat e.seat).mic)))) ∧
  (∀ (s : State) (i : Seat) (why : FloorReason) (k : Nat),
     let x := s.sectionOf i
     (s.freeSlot x = some k →
       k < 8 ∧ (∀ j, s.sectionOf j = x → (s.seat j).slot ≠ some k) ∧
       (∀ j, j < k → ∃ h, s.sectionOf h = x ∧ (s.seat h).slot = some j)) ∧
     ((s.seat i).mic = .closed → s.freeSlot x = some k →
       ((s.grant i why).seat i).slot = some k ∧ ((s.grant i why).seat i).mic = .active ∧
       ∀ j, j ≠ i → SameFloor (s.seat j) ((s.grant i why).seat j)))

/-- DENY and PROMOTE of a seat above 47 or outside the section are refused RANGE (R32), in FREE and GRACE
WRONG_STATE. DENY of a queued seat removes its entry, shows the seat DENIED and is answered OK; of a seat
with no entry it is refused TOO_LATE while the seat is on the floor and NOT_FOUND otherwise. PROMOTE of a
NORMAL entry places it, PROMOTED, after the last PROMOTED one, ahead of every NORMAL one, and answers with
its place; of a PROMOTED entry it changes nothing; with no entry it is refused as DENY is (R51, R54, R55,
R130). DENY tells QUEUE REMOVED of reason DENIED first, and alone in a settled section outside OVERRUN;
PROMOTE tells QUEUE PROMOTED with the new class and place, and nothing else (R58). -/
def Obligations.DenyAndPromoteOneEntry : Prop :=
  ∀ (p : Port) (x : Sect) (s : State) (payload : List Byte), QueuesFit s → s.takesFrom p →
    s.commanded p = some x → payload.length = 1 →
    let u := s.retriggerIdle x
    ((∀ i, seatOf? (byteAt payload 0) = some i → s.sectionOf i ≠ x) →
      exec (.deny p payload) s = .next (u.answers p 0x25 1 .range []) ∧
      exec (.promote p payload) s = .next (u.answers p 0x29 1 .range [])) ∧
    ∀ i, seatOf? (byteAt payload 0) = some i → s.sectionOf i = x →
    ((s.sect x).state.floorOpen = false →
      exec (.deny p payload) s = .next (u.answers p 0x25 1 .wrongState []) ∧
      exec (.promote p payload) s = .next (u.answers p 0x29 1 .wrongState [])) ∧
    ((s.sect x).state.floorOpen = true → s.queueEntry x i = none →
      let code : ReplyCode := if (s.seat i).mic.onFloor then .tooLate else .notFound
      exec (.deny p payload) s = .next (u.answers p 0x25 1 code []) ∧
      exec (.promote p payload) s = .next (u.answers p 0x29 1 code [])) ∧
    ∀ e, (s.sect x).state.floorOpen = true → s.queueEntry x i = some e →
      (∃ t, exec (.deny p payload) s = .next t ∧ FloorFrame x s t ∧ AnsweredAt s t p 0x25 1 .ok [] ∧
        t.queueEntry x i = none ∧
        (t.seat i).denyTag = (if (s.seat i).presence = .ready then ((s.seat i).denyTag + 1) % 256
          else (s.seat i).denyTag) ∧
        ((s.sect x).state ≠ .overrun → (t.sect x).queue = (s.sect x).queue.filter fun f => f.seat ≠ i) ∧
        ∃ post, Tells (s.accepted p 1) t (s.removalTold x i .denied ++ post) ∧
          ((s.sect x).state ≠ .overrun → s.settled x → post = [])) ∧
      (e.cls = .promoted →
        exec (.promote p payload) s =
          .next (u.answers p 0x29 1 .ok (opt8 (placeIn i (s.sect x).queue)))) ∧
      (e.cls = .normal →
        let others := (s.sect x).queue.filter fun f => f.seat ≠ i
        let ahead := others.filter fun f => f.cls = .promoted
        ∃ t, exec (.promote p payload) s = .next t ∧ FloorFrame x s t ∧
          t.sect x = { u.sect x with
            queue := ahead ++ { e with cls := .promoted } :: (others.filter fun f => f.cls = .normal) } ∧
          (∀ j, SameFloor (s.seat j) (t.seat j)) ∧
          AnsweredAt s t p 0x29 1 .ok (enc8 (ahead.length + 1)) ∧
          Tells (s.accepted p 1) t [s.queueTo x (some i) .promoted .promote none (some { e with cls := .promoted })
            (some (ahead.length + 1)) (s.sect x).queue.length])

/-- CLOSE closes a seat on the floor and answers with its mic state and the delegate count, the count as it
stands after the queue has advanced, which is the model's choice (assumption 17); of any other seat it is
refused WRONG_STATE, and RANGE of a seat above 47 or outside the section. CLOSEALL closes every acting
delegate of the section on the floor and answers with how many. Both are refused WRONG_STATE in FREE and
GRACE (R71, R72, R69). Each close tells FLOOR CLOSED first, ascending, with its reason and the delegate
count then left, and nothing else where the section is settled, its queue empty and its state not OVERRUN
(R83). After the event of a CLOSEALL that closes a delegate, in OPEN or QUEUE mode with priority off in
SESSION or ENDING, the queue has been advanced: it is empty, or the delegate count has reached N (R50, R72).
The advance of a section's queue (R50): in OPEN or QUEUE mode, with priority off, in SESSION or ENDING, the
heads of the queue leave it in their order while the delegate count is below N, until the queue is empty or
N is reached; a head that has reached the cap is only removed and shown DENIED, any other is granted. In any
other case, and with N reached before it, nothing changes, and no advance carries the delegate count above N
(R65). -/
def Obligations.CloseAndCloseAll : Prop :=
  (∀ (p : Port) (x : Sect) (s : State), QueuesFit s → s.takesFrom p → s.commanded p = some x →
     let u := s.retriggerIdle x
     let settles : Prop := s.settled x ∧ (s.sect x).queue = [] ∧ (s.sect x).state ≠ .overrun
     ((s.sect x).state.floorOpen = false →
       exec (.closeAll p []) s = .next (u.answers p 0x27 0 .wrongState [])) ∧
     ((s.sect x).state.floorOpen = true → (∀ i, (s.seat i).mic.onFloor = true → s.queueEntry x i = none) →
       let l := s.seatsWhere x fun r => r.isDelegate && r.mic.onFloor
       ∃ t, exec (.closeAll p []) s = .next t ∧ FloorFrame x s t ∧ (∀ i, i ∈ l → ClosedSeat i s t) ∧
         AnsweredAt s t p 0x27 0 .ok (enc8 l.length) ∧
         ∃ post, Tells (s.accepted p 0) t (s.closedTold x .closeAll (s.delegateCount x) l ++ post) ∧
           (settles → post = [])) ∧
     ∀ payload : List Byte, payload.length = 1 →
       ((∀ i, seatOf? (byteAt payload 0) = some i → s.sectionOf i ≠ x) →
         exec (.close p payload) s = .next (u.answers p 0x26 1 .range [])) ∧
       (∀ i, seatOf? (byteAt payload 0) = some i → s.sectionOf i = x →
         ((s.sect x).state.floorOpen = false ∨ (s.seat i).mic.onFloor = false →
           exec (.close p payload) s = .next (u.answers p 0x26 1 .wrongState [])) ∧
         ((s.sect x).state.floorOpen = true → (s.seat i).mic.onFloor = true → s.queueEntry x i = none →
           ∃ t, exec (.close p payload) s = .next t ∧ FloorFrame x s t ∧ ClosedSeat i s t ∧
             AnsweredAt s t p 0x26 1 .ok (enc8 (t.seat i).mic.code ++ enc8 (t.delegateCount x)) ∧
             ∃ post, Tells (s.accepted p 1) t (s.closedTold x .close (s.delegateCount x) [i] ++ post) ∧
               (settles → post = [])))) ∧
  (∀ (p : Port) (x : Sect) (s : State), QueuesFit s → s.takesFrom p → s.commanded p = some x →
     (s.seatsWhere x fun r => r.isDelegate && r.mic.onFloor) ≠ [] →
     (s.sect x).settings.floorMode ≠ .chair → s.priorityOn x = false →
     (s.sect x).state = .session ∨ (s.sect x).state = .ending →
     ∃ t, exec (.closeAll p []) s = .next t ∧
       ((t.sect x).queue = [] ∨ (s.sect x).settings.limit ≤ t.delegateCount x)) ∧
  (∀ (s : State) (x : Sect), QueuesFit s →
     (∀ e, e ∈ (s.sect x).queue → (s.seat e.seat).mic = .closed ∨ (s.seat e.seat).mic = .closing) →
     let r := s.sect x
     let t := State.advance r.queue.length x s
     let may : Prop := r.settings.floorMode ≠ .chair ∧ s.priorityOn x = false ∧
       (r.state = .session ∨ r.state = .ending)
     (¬ may → t = s) ∧ (r.settings.limit ≤ s.delegateCount x → t = s) ∧
     t.delegateCount x ≤ max r.settings.limit (s.delegateCount x) ∧
     (may → ((t.sect x).queue = [] ∨ r.settings.limit ≤ t.delegateCount x) ∧
       ∃ n, n ≤ r.queue.length ∧ (t.sect x).queue = r.queue.drop n ∧
         ∀ e, e ∈ r.queue.take n →
           (s.capReached x e.seat = true → SameFloor (s.seat e.seat) (t.seat e.seat) ∧
             ((s.seat e.seat).presence = .ready →
               (t.seat e.seat).denyTag = ((s.seat e.seat).denyTag + 1) % 256)) ∧
           (s.capReached x e.seat = false → (t.seat e.seat).mic.onFloor = true ∧
             ((s.seat e.seat).mic = .closing → (t.seat e.seat).mic = .active) ∧
             (t.seat e.seat).denyTag = (s.seat e.seat).denyTag)))

/-- PRIORITY from the console. On: the console is a holder, and where priority was off every ACTIVE acting
delegate is SUSPENDED with its slot, ramp, stamp and turn. Off: the console is no holder, and where the set
empties, MUTE returns each SUSPENDED acting delegate to ACTIVE with its slot, ramp and stamp, and CANCEL
closes those SUSPENDED and PENDING. The answer holds the members and whether priority is on. A value above 1
is refused RANGE, before the state, which is refused WRONG_STATE in FREE and GRACE (R76, R77, R79). FLOOR
SUSPENDED, RESUMED of reason PRIORITY_END or CLOSED of reason CANCELLED for each of those seats, ascending,
comes first (R83). -/
def Obligations.PrioritySuspendsAndResumes : Prop :=
  ∀ (p : Port) (x : Sect) (s : State) (payload : List Byte), QueuesFit s → s.takesFrom p →
    s.commanded p = some x →
    payload.length = 1 →
    let u := s.retriggerIdle x
    let done (t : State) : Prop := FloorFrame x s t ∧
      AnsweredAt s t p 0x2A 1 .ok (enc8 (t.sect x).holderCount ++ encFlag (t.priorityOn x))
    (1 < byteAt payload 0 → exec (.priority p payload) s = .next (u.answers p 0x2A 1 .range [])) ∧
    (byteAt payload 0 ≤ 1 → (s.sect x).state.floorOpen = false →
      exec (.priority p payload) s = .next (u.answers p 0x2A 1 .wrongState [])) ∧
    ((s.sect x).state.floorOpen = true → byteAt payload 0 = 1 →
      ((s.sect x).state = .overrun → s.speakingDelegates x ≠ 0) →
      ∃ t, exec (.priority p payload) s = .next t ∧ done t ∧ (t.sect x).console = true ∧
        (t.sect x).holders = (s.sect x).holders ∧ t.priorityOn x = true ∧
        (s.priorityOn x = false → ∀ i, s.sectionOf i = x → (s.seat i).isDelegate = true →
          (s.seat i).mic = .active →
          (t.seat i).mic = .suspended ∧ (t.seat i).slot = (s.seat i).slot ∧
            (t.seat i).ramp = (s.seat i).ramp ∧ (t.seat i).stamp = (s.seat i).stamp ∧
            (t.seat i).turn = (s.seat i).turn) ∧
        ∃ post, Tells (s.accepted p 1) t ((if s.priorityOn x = true then [] else s.suspendedTold x) ++ post) ∧
          (s.settled x → post = [])) ∧
    ((s.sect x).state.floorOpen = true → byteAt payload 0 = 0 →
      (∀ i, (s.seat i).mic.onFloor = true → s.queueEntry x i = none) →
      ∃ t, exec (.priority p payload) s = .next t ∧ done t ∧ (t.sect x).console = false ∧
        ((s.sect x).console = true → (s.sect x).holders = [] → ∀ i, s.sectionOf i = x →
          (s.seat i).isDelegate = true →
          ((s.seat i).mic = .suspended → (s.sect x).settings.prioMode = .mute →
            (t.seat i).mic = .active ∧ (t.seat i).slot = (s.seat i).slot ∧
              (t.seat i).ramp = (s.seat i).ramp ∧ (t.seat i).stamp = (s.seat i).stamp) ∧
          ((s.seat i).mic = .suspended ∨ (s.seat i).mic = .pending →
            (s.sect x).settings.prioMode = .cancel → ClosedSeat i s t)) ∧
        ((s.sect x).console = true → (s.sect x).holders = [] → ∃ post, Tells (s.accepted p 1) t
          ((match (s.sect x).settings.prioMode with
            | .mute => s.resumedTold x
            | .cancel => s.closedTold x .cancelled (s.delegateCount x)
              (s.seatsWhere x fun r => r.isDelegate && (r.mic = .suspended || r.mic = .pending))) ++ post)))

/-- FLOOR writes the four fields of the floor part of the running section's working settings and no other
setting. It is refused WRONG_STATE in FREE, then RANGE for a field out of range, then LIMIT for a limit
below the delegate count. When it is taken the queue advances once: in OPEN or QUEUE mode as then set,
priority off, in SESSION or ENDING, its heads leave it until it is empty or the delegate count has reached
the new limit; otherwise the queue stays (R56, R50). -/
def Obligations.FloorWritesTheFloorPart : Prop :=
  ∀ (p : Port) (x : Sect) (s : State) (payload : List Byte), QueuesFit s → s.takesFrom p →
    s.commanded p = some x →
    payload.length = 4 →
    let u := s.retriggerIdle x
    ((s.sect x).state.running = false →
      exec (.floor p payload) s = .next (u.answers p 0x2B 4 .wrongState [])) ∧
    ((s.sect x).state.running = true →
      (2 < byteAt payload 0 ∨ 1 < byteAt payload 1 ∨ byteAt payload 2 < 1 ∨ 6 < byteAt payload 2 ∨
          2 < byteAt payload 3 →
        exec (.floor p payload) s = .next (u.answers p 0x2B 4 .range [])) ∧
      ∀ m o k, floorModeOf? (byteAt payload 0) = some m → flagOf? (byteAt payload 1) = some o →
        1 ≤ byteAt payload 2 → byteAt payload 2 ≤ 6 → keyModeOf? (byteAt payload 3) = some k →
        (byteAt payload 2 < s.delegateCount x →
          exec (.floor p payload) s = .next (u.answers p 0x2B 4 .limit [])) ∧
        (s.delegateCount x ≤ byteAt payload 2 →
          ((s.sect x).state = .overrun → s.speakingDelegates x ≠ 0) →
          ∃ t, exec (.floor p payload) s = .next t ∧ FloorFrame x s t ∧ AnsweredAt s t p 0x2B 4 .ok [] ∧
            (t.sect x).settings = { (s.sect x).settings with
              floorMode := m, override := o, limit := byteAt payload 2, keyMode := k } ∧
            let may : Prop := m ≠ .chair ∧ s.priorityOn x = false ∧
              ((s.sect x).state = .session ∨ (s.sect x).state = .ending)
            (may → ((t.sect x).queue = [] ∨ byteAt payload 2 ≤ t.delegateCount x) ∧
              (t.sect x).queue <:+ (s.sect x).queue) ∧
            (¬ may → (t.sect x).queue = (s.sect x).queue)))

/-- ADDTIME adds 10 to 600 seconds to a limited turn, up to 3600; the warned flag is cleared above the
warning time and the expired flag above 0; a TURN notice EXTENDED with the seconds added goes to the
section's chair ports, and nothing else changes but the idle timer and what is shown. A seat above 47 or
outside the section is refused RANGE. Refused then, in this order: WRONG_STATE in FREE and GRACE, RANGE for
the seconds, WRONG_STATE without a limited turn, TOO_LATE for a turn standing expired at 0 under CLOSE,
CAP_REACHED at the seat cap (R96, R101, R32). CLOCK holds or releases the section's turns; a value above 1
is refused RANGE, before WRONG_STATE in FREE and GRACE (R94). -/
def Obligations.AddTimeAndClock : Prop :=
  ∀ (p : Port) (x : Sect) (s : State) (payload : List Byte), s.takesFrom p → s.commanded p = some x →
    let u := s.retriggerIdle x
    (payload.length = 1 →
      (1 < byteAt payload 0 → exec (.clock p payload) s = .next (u.answers p 0x2D 1 .range [])) ∧
      (byteAt payload 0 ≤ 1 → (s.sect x).state.floorOpen = false →
        exec (.clock p payload) s = .next (u.answers p 0x2D 1 .wrongState [])) ∧
      (byteAt payload 0 ≤ 1 → (s.sect x).state.floorOpen = true →
        ∃ t, exec (.clock p payload) s = .next t ∧
          t.bare = ((u.answers p 0x2D 1 .ok (payload.take 1)).modSect x fun r =>
            { r with clockHold := byteAt payload 0 = 1 }).bare)) ∧
    (payload.length = 3 → (∀ i, seatOf? (byteAt payload 0) = some i → s.sectionOf i ≠ x) →
      exec (.addTime p payload) s = .next (u.answers p 0x2C 3 .range [])) ∧
    ∀ i, payload.length = 3 → seatOf? (byteAt payload 0) = some i → s.sectionOf i = x →
      let n := word16At payload 1
      let stop (code : ReplyCode) : Prop :=
        exec (.addTime p payload) s = .next (u.answers p 0x2C 3 code [])
      ((s.sect x).state.floorOpen = false → stop .wrongState) ∧
      ((s.sect x).state.floorOpen = true →
        (n < 10 ∨ 600 < n → stop .range) ∧
        (10 ≤ n → n ≤ 600 →
          ((s.seat i).turn = none → stop .wrongState) ∧
          ∀ q, (s.seat i).turn = some q →
            let late : Prop := (s.sect x).settings.expiry = .close ∧ q.remaining = 0 ∧ q.expired = true
            let rem : Int := if q.remaining + n ≤ 3600 then q.remaining + n else 3600
            let q' : Turn := { q with remaining := rem,
                                      warned := q.warned && decide (rem ≤ ((s.sect x).settings.warn : Int)),
                                      expired := q.expired && decide (rem ≤ 0) }
            let held : Bool := (s.seat i).mic = .suspended || (s.sect x).clockHold
            (q.budget = 0 → stop .wrongState) ∧
            (q.budget ≠ 0 → late → stop .tooLate) ∧
            (q.budget ≠ 0 → ¬ late → s.capReached x i = true → stop .capReached) ∧
            (q.budget ≠ 0 → ¬ late → s.capReached x i = false →
              ∃ t, exec (.addTime p payload) s = .next t ∧
                t.bare = (((u.answers p 0x2C 3 .ok (encTurn (some q'))).modSeat i fun r =>
                  { r with turn := some q' }).tell [(s.chairPorts x, s.notice (some x) (some i)
                    (.turn .extended (some q.budget) (some rem) q'.warned q'.expired (some n) (s.seat i).cumul
                      held))]).bare)))

/-- SHARE makes a READY seat of a running section that owns a source its EXPLICIT presenter and answers with
the seat, the source and its present flag; it is refused RANGE for a seat above 47 and, from a chair port,
for one outside its section; then WRONG_STATE where the section does not run or the seat is not READY,
NOT_FOUND where the seat owns no source. UNSHARE removes an EXPLICIT presenter, with the fallback of R136,
leaves any other as it is, and answers with the presenter then (R137, R138). From the MDP both take any
section, from a chair port its own. UNSHARE of another section from a chair port, or of a number above 1
from the MDP, is refused RANGE; so is, by the model's choice, a MERGED section B from the lead port
(assumption 44). A source is owned by the lowest seat whose effective share input it is (R134); the fallback
is, with presenter follows speaker on, the source owner of the section that is ACTIVE with the newest stamp,
of equal stamps the higher seat, with origin FOLLOW, and otherwise none (R136, R64). Every step from a floor
in form keeps a presenter a READY seat of its section that owns a source, in a section that runs (R135,
R136). -/
def Obligations.ShareAndUnshare : Prop :=
  (∀ (p : Port) (x : Sect) (s : State) (payload : List Byte), s.takesFrom p → payload.length = 1 →
     (s.commanded p = some x ∨ p = .mdp) →
     let u := if p = .mdp then s else s.retriggerIdle x
     ((∀ i, seatOf? (byteAt payload 0) = some i → p ≠ .mdp ∧ s.sectionOf i ≠ x) →
       exec (.share p payload) s = .next (u.answers p 0x2E 1 .range [])) ∧
     (∀ i, seatOf? (byteAt payload 0) = some i → s.sectionOf i = x →
       ((s.sect x).state.running = false ∨ (s.seat i).presence ≠ .ready →
         exec (.share p payload) s = .next (u.answers p 0x2E 1 .wrongState [])) ∧
       ((s.sect x).state.running = true → (s.seat i).presence = .ready →
         (s.ownsSource i = none → exec (.share p payload) s = .next (u.answers p 0x2E 1 .notFound [])) ∧
         ∀ n, s.ownsSource i = some n → ∃ t, exec (.share p payload) s = .next t ∧
           t.bare = ((u.answers p 0x2E 1 .ok (enc8 i.val ++ enc8 n.val ++ encFlag s.present[n])).modSect x
             fun r => { r with presenter := some (i, .explicit) }).bare)) ∧
     ((if p = .mdp then 1 < byteAt payload 0 else sectOf? (byteAt payload 0) ≠ some x) →
       exec (.unshare p payload) s = .next (u.answers p 0x2F 1 .range [])) ∧
     (sectOf? (byteAt payload 0) = some x →
       ((s.sect x).state.running = false →
         exec (.unshare p payload) s = .next (u.answers p 0x2F 1 .wrongState [])) ∧
       ((s.sect x).state.running = true →
         let kept := match (s.sect x).presenter with
           | some (_, .explicit) => s.fallbackPresenter x
           | other => other
         ∃ t, exec (.unshare p payload) s = .next t ∧
           t.bare = ((u.answers p 0x2F 1 .ok (encPresenter kept)).modSect x fun r =>
             { r with presenter := kept }).bare))) ∧
  (∀ (s : State) (x : Sect),
     let share (i : Seat) : Option Nat :=
       match (s.seat i).part.bind fun q => q.share with
       | some m => some m
       | none => (s.seat i).map.share
     let owns (i : Seat) (n : Fin 8) : Prop := share i = some n.val ∧ ∀ h, h < i → share h ≠ some n.val
     let stamp (i : Seat) : Nat := (s.seat i).stamp.getD 0
     let fits (i : Seat) : Prop := s.sectionOf i = x ∧ (s.seat i).mic = .active ∧ ∃ n, owns i n
     (∀ i n, s.ownsSource i = some n ↔ owns i n) ∧
     ((s.sect x).settings.follows = false ∨ (∀ i, ¬ fits i) → s.fallbackPresenter x = none) ∧
     ((s.sect x).settings.follows = true → ∀ i, fits i →
       (∀ j, fits j → j ≠ i → stamp j < stamp i ∨ stamp j = stamp i ∧ j < i) →
       s.fallbackPresenter x = some (i, .follow))) ∧
  ∀ s t : State, FloorFits s → PresentersFit s → step s = .next t → PresentersFit t

/-- Whatever a chair command on the queue, the floor, the turns or the presenter answers, its effect stays
at the section it is taken for: other seats' floor parts, every unit, map and audio part, the other section
but for its presenter, table mode, time, profiles and store are as they were, and the ports gain at most
notices. -/
def Obligations.FloorCommandsStayInTheirSection : Prop :=
  ∀ (c : Instr) (p : Port) (code : Byte) (payload : List Byte) (x : Sect) (s : State),
    request? c = some (p, code, payload) → c.wellFormed = true → QueuesFit s → s.takesFrom p →
    s.commanded p = some x →
    0x24 ≤ code.toNat → code.toNat ≤ 0x2F → tableCodes.contains code.toNat = true →
    ∃ t, exec c s = .next t ∧ FloorFrame x s t ∧ (t.port p).busy = false ∧
      (∃ r, (t.port p).reply = some r ∧ r.command = code) ∧
      (∀ q, q ≠ p → NoticesOnly (s.port q) (t.port q))

/-! ### Sessions (spec/10) -/

/-- WALKIN asks for a span, the port's own half or JOINED, a length r and a profile. It is refused RANGE for
another span or profile, then WRONG_STATE while a section it needs is not FREE (R178). The calendar refuses
RANGE an r that is neither 0 nor 5 to 1440, CONFLICT where a booking that shares a section and starts before
now + r, or at any minute for r = 0, starts before now + G, RANGE an end above 4,294,967,294 and FULL at 64
bookings. The walk-in starts at now and ends at the earliest of now + r and those starts, open with r = 0
and none of them; with table time unset it has neither minute (R165). Then a session starts at once, without
GRACE: its booking, with the next free id, is RUNNING and in the list, the table takes the mode its span
needs, a JOINED span the port's half as lead, the section holds the booking with its profile's settings,
both counters 1 and its acting chairs: its first two CHAIR-class seats, of the lead half alone when JOINED;
every seat of it has its part, role and no name or override, and cumulative seconds 0. It enters ENDING
where now stands at or above the end less the warning time, that not 0, else SESSION (R30, R59, R64, R173,
R174, R179, R26, R98). It tells BOOKING WALKIN, the SESSION of reason MODE of a change of mode and the
SESSION of reason WALKIN, and nothing else (R27, R170, R188), the lead port of a JOINED one set before the
second (assumption 16). -/
def Obligations.WalkInStartsASession : Prop :=
  ∀ (p : Port) (half : Sect) (s : State) (payload : List Byte), s.takesFrom p → portHalf p = some half →
    (s.commanded p ≠ none ∨ s.secA.state = .free) → payload.length = 4 →
    let u := match s.commanded p with
      | some x => s.retriggerIdle x
      | none => s
    let stop (code : ReplyCode) : Prop := exec (.walkIn p payload) s = .next (u.answers p 0x20 4 code [])
    let r := word16At payload 1
    (spanOf? (byteAt payload 0) = none ∨ (∃ y, y ≠ half ∧ spanOf? (byteAt payload 0) = some (halfSpan y)) ∨
      7 < byteAt payload 3 → stop .range) ∧
    ∀ sp n, spanOf? (byteAt payload 0) = some sp → sp = .joined ∨ sp = halfSpan half →
      profileOf? (byteAt payload 3) = some n →
      let free : Prop :=
        match s.mode, sp with
        | .joined, _ => s.secA.state = .free
        | .divided, .joined => s.secA.state = .free ∧ s.secB.state = .free
        | .divided, .a | .divided, .b => (s.sect half).state = .free
      let taken (start end_ : Option Nat) : Prop :=
        let b : Booking := { id := s.newId, span := sp, start := start, stop := end_, profile := n, lead := half,
                             title := [], roster := [], origin := .walkIn, state := .running }
        let x := spanSection sp
        let after : SectState :=
          match start, end_ with
          | some now, some e =>
            if s.profiles[n].ending ≠ 0 ∧ e ≤ now + s.profiles[n].ending then .ending else .session
          | _, _ => .session
        ∃ t, exec (.walkIn p payload) s = .next t ∧ StartedOn b s t ∧
          (∀ c, c ∈ s.bookings → c.id ≠ s.newId ∧ c ∈ t.bookings) ∧
          t.bookings.length = s.bookings.length + 1 ∧ t.lastId = s.newId ∧ (t.sect x).state = after ∧
          AnsweredAt s t p 0x20 4 .ok (enc16 s.newId ++ enc8 sp.code ++ opt32 end_ ++ enc8 after.code) ∧
          Tells (s.accepted p 4) t (([.scp], s.notice (spanHeader (some sp)) none
            (.booking .walkIn (some s.newId) (some sp) start end_ none none none)) ::
              s.startTold b after .walkIn)
      (¬ free → stop .wrongState) ∧
      (free → r ≠ 0 → r < 5 ∨ 1440 < r → stop .range) ∧
      (free → r = 0 ∨ 5 ≤ r ∧ r ≤ 1440 →
        (s.minute = none →
          (64 ≤ s.bookings.length → stop .full) ∧ (s.bookings.length < 64 → taken none none)) ∧
        ∀ now, s.minute = some now →
          let bears (b : Booking) : Prop :=
            b ∈ s.bookings ∧ spansShare b.span sp = true ∧ (r = 0 ∨ b.start.getD 0 < now + r)
          let ends (e : Nat) : Prop :=
            (r ≠ 0 ∧ e = now + r ∨ ∃ b, bears b ∧ e = b.start.getD 0) ∧
              (r ≠ 0 → e ≤ now + r) ∧ ∀ b, bears b → e ≤ b.start.getD 0
          ((∃ b, bears b ∧ b.start.getD 0 < now + s.guardG) → stop .conflict) ∧
          ((∀ b, bears b → now + s.guardG ≤ b.start.getD 0) →
            (∀ e, ends e →
              (4294967294 < e → stop .range) ∧
              (e ≤ 4294967294 → 64 ≤ s.bookings.length → stop .full) ∧
              (e ≤ 4294967294 → s.bookings.length < 64 → taken (some now) (some e))) ∧
            (r = 0 → (∀ b, ¬ bears b) →
              (64 ≤ s.bookings.length → stop .full) ∧
              (s.bookings.length < 64 → taken (some now) none))))

/-- CHECKIN, from the port that commands a section in GRACE or from the SCP naming it, checks it in: the
grace timer stops, the section enters SESSION, or ENDING where m stands at or above e − w, its idle timer
starts where it is quiet, the answer holds the state entered, and one SESSION notice of reason CHECK_IN with
its source is told; no seat, no booking and nothing else of the section changes. In any other state it is
refused WRONG_STATE, and a section number above 1 RANGE (R176, R177, R179, R183, R188). -/
def Obligations.CheckInEntersSession : Prop :=
  (∀ (payload : List Byte) (s : State), s.takesFrom .scp → payload.length = 1 → 1 < byteAt payload 0 →
    exec (.checkIn .scp payload) s = .next (s.answers .scp 0x21 1 .range [])) ∧
  ∀ (p : Port) (x : Sect) (s : State) (payload : List Byte), s.takesFrom p →
    (s.commanded p = some x ∧ payload = [] ∨
      p = .scp ∧ payload.length = 1 ∧ sectOf? (byteAt payload 0) = some x) →
    let u := if p = .scp then s else s.retriggerIdle x
    ((s.sect x).state ≠ .grace →
      exec (.checkIn p payload) s = .next (u.answers p 0x21 payload.length .wrongState [])) ∧
    ((s.sect x).state = .grace →
      ∃ t, exec (.checkIn p payload) s = .next t ∧ SameBase s t ∧ t.bookings = s.bookings ∧
        t.sect x = { s.sect x with
          state := if s.endingDue x then .ending else .session, grace := .stopped,
          idle := if s.quiet x then Timer.start (s.sect x).settings.idle else .stopped } ∧
        (∀ y, y ≠ x → t.sect y = s.sect y) ∧
        (∀ i, SameUnit (s.seat i) (t.seat i) ∧ SameFloor (s.seat i) (t.seat i)) ∧
        AnsweredAt s t p 0x21 payload.length .ok (enc8 (t.sect x).state.code) ∧
        Tells (s.accepted p payload.length) t [s.sessionTo x .grace (t.sect x).state .checkIn
          (some (if p = .scp then .scp else .console)) none (s.runningBooking x) (s.sect x).loaded])

/-- EXTEND by x minutes, 1 to 120, moves the end minute of the section's running booking and answers with it
and the state after; a section whose new end lies beyond the warning time is in SESSION, one inside it in
ENDING, and one in GRACE stays there; BOOKING END_CHANGED of reason EXTEND, and SESSION of reason
END_CHANGED where the state changes, are told and no others, in this order (the model's choice, assumption
15). Refused: RANGE for x, then WRONG_STATE in FREE and OVERRUN and for an open end, RANGE for an end beyond
the last minute, and CONFLICT, with the latest end possible: the next start at or after e of another booking
that shares a section (R180, R166, R179, R170). -/
def Obligations.ExtendMovesTheEnd : Prop :=
  ∀ (p : Port) (x : Sect) (s : State) (payload : List Byte), s.takesFrom p → s.commanded p = some x →
    payload.length = 1 →
    let u := s.retriggerIdle x
    let n := byteAt payload 0
    let open_ : Prop := (s.sect x).state = .grace ∨ (s.sect x).state = .session ∨ (s.sect x).state = .ending
    (n < 1 ∨ 120 < n → exec (.extend p payload) s = .next (u.answers p 0x23 1 .range [])) ∧
    (1 ≤ n → n ≤ 120 → ¬ open_ → exec (.extend p payload) s = .next (u.answers p 0x23 1 .wrongState [])) ∧
    ∀ b, 1 ≤ n → n ≤ 120 → open_ → s.runningBooking x = some b → spanSection b.span = x →
      (b.stop = none → exec (.extend p payload) s = .next (u.answers p 0x23 1 .wrongState [])) ∧
      ∀ e, b.stop = some e →
        let clash := s.conflicting (some b.id) b.span b.start (some (e + n))
        (4294967294 < e + n → exec (.extend p payload) s = .next (u.answers p 0x23 1 .range [])) ∧
        let starts (l : Nat) : Prop :=
          e ≤ l ∧ ∃ c, c ∈ s.bookings ∧ c.id ≠ b.id ∧ spansShare c.span b.span = true ∧ c.start.getD 0 = l
        (e + n ≤ 4294967294 → clash ≠ [] →
          (∀ l, starts l → (∀ k, starts k → l ≤ k) →
            exec (.extend p payload) s = .next (u.answers p 0x23 1 .conflict (opt32 (some l)))) ∧
          ((∀ l, ¬ starts l) →
            exec (.extend p payload) s = .next (u.answers p 0x23 1 .conflict (opt32 none)))) ∧
        (e + n ≤ 4294967294 → clash = [] →
          ∃ t, exec (.extend p payload) s = .next t ∧ SameBase s t ∧
            t.bookings = s.bookings.map (fun c => if c.id = b.id then { c with stop := some (e + n) } else c) ∧
            (∀ i, SameUnit (s.seat i) (t.seat i) ∧ SameFloor (s.seat i) (t.seat i)) ∧
            t.sect x = { u.sect x with state :=
              if (s.sect x).state = .grace then .grace
              else if ∃ m, s.minute = some m ∧ (s.sect x).settings.ending ≠ 0 ∧
                  e + n ≤ m + (s.sect x).settings.ending then .ending
              else .session } ∧
            (∀ y, y ≠ x → t.sect y = s.sect y) ∧
            AnsweredAt s t p 0x23 1 .ok (enc32 (e + n) ++ enc8 (t.sect x).state.code) ∧
            Tells (s.accepted p 1) t (s.endChangedTold x b (e + n) .extend (t.sect x).state))

/-! ### The calendar (spec/09) -/

/-- SETTIME: a minute above 4,294,000,000 or a second above 59 is refused RANGE, a change of more than 300
seconds while time is set and a section runs WRONG_STATE. Otherwise table time takes the values given and
the calendar acts on its list: no booking that is still PENDING starts or ends at or before the new minute.
Units, profiles, store and settings stay (R153, R154). What a SETTIME to m that is taken does with section x
running booking b, where no booking is then due to start: at or below m its end minute ends the session with
reason EXTERNAL, in every state; otherwise SESSION and ENDING follow the test of the warning time at m, and
GRACE and OVERRUN stay (R154, R179, R175). The end's notices are those of R185 with reason EXTERNAL, and a
change between SESSION and ENDING has its SESSION notice of reason TIME_SET. The one PENDING booking that a
SETTIME finds due, its end above m and the table free, starts, with the notices of its start last (R154,
R188), the lead port set before that of reason MODE (assumption 16). -/
def Obligations.SetTimeSetsTableTime : Prop :=
  (∀ (s : State) (payload : List Byte), s.takesFrom .scp → payload.length = 5 →
     let m := word32At payload 0
     let sec := byteAt payload 4
     let far : Prop := ∃ m0, s.minute = some m0 ∧
       (s.secA.state.running = true ∨ s.secB.state.running = true) ∧
       300 < ((m : Int) * 60 + sec - (m0 * 60 + s.second)).natAbs
     (4294000000 < m ∨ 59 < sec → exec (.setTime .scp payload) s = .next (s.answers .scp 0x40 5 .range [])) ∧
     (m ≤ 4294000000 → sec ≤ 59 → far →
       exec (.setTime .scp payload) s = .next (s.answers .scp 0x40 5 .wrongState [])) ∧
     (m ≤ 4294000000 → sec ≤ 59 → ¬ far →
       ∃ t, exec (.setTime .scp payload) s = .next t ∧ t.minute = some m ∧ t.second = sec ∧
         (∀ b, b ∈ t.bookings → b.state = .pending →
           m < b.start.getD 0 ∧ ∀ e, b.stop = some e → m < e) ∧
         (∀ b, b ∈ t.bookings → ∃ c, c ∈ s.bookings ∧ c.id = b.id ∧ c.span = b.span ∧ c.stop = b.stop ∧
           c.title = b.title ∧ c.roster = b.roster) ∧
         (∀ i, SameUnit (s.seat i) (t.seat i)) ∧ t.profiles = s.profiles ∧ t.stored = s.stored ∧
         t.write = s.write ∧ t.k = s.k ∧ t.defMode = s.defMode ∧ t.freezeF = s.freezeF ∧
         t.guardG = s.guardG ∧ t.lastId = s.lastId ∧ t.place = s.place ∧ t.present = s.present ∧
         AnsweredAt s t .scp 0x40 5 .ok (enc32 m ++ enc8 sec))) ∧
  (∀ (s : State) (payload : List Byte), s.takesFrom .scp → payload.length = 5 →
     let m := word32At payload 0
     let sec := byteAt payload 4
     let far : Prop := ∃ m0, s.minute = some m0 ∧
       (s.secA.state.running = true ∨ s.secB.state.running = true) ∧
       300 < ((m : Int) * 60 + sec - (m0 * 60 + s.second)).natAbs
     let v : State := { s with minute := some m, second := sec }
     let among (t : State) (l : List (List Port × Notice)) : Prop :=
       ∃ pre post, Tells (s.accepted .scp 5) t (pre ++ l ++ post)
     m ≤ 4294000000 → sec ≤ 59 → ¬ far → s.minute ≠ none →
     (∀ (x : Sect) (b : Booking), RunsOn x b s →
       (∀ c, c ∈ s.bookings → c.state = .pending → m < c.start.getD 0 ∨ ∃ e, c.stop = some e ∧ e ≤ m) →
       ∃ t, exec (.setTime .scp payload) s = .next t ∧
         (∀ e, b.stop = some e → e ≤ m → SessionOver x s t ∧ among t (v.endTold x .external .external)) ∧
         ((∀ e, b.stop = some e → m < e) → (t.sect x).booking = some b.id ∧
           (t.sect x).state = (match (s.sect x).state with
             | .session | .ending =>
               if (∃ e, b.stop = some e ∧ (s.sect x).settings.ending ≠ 0 ∧ e ≤ m + (s.sect x).settings.ending)
               then .ending else .session
             | other => other) ∧
           ((t.sect x).state ≠ (s.sect x).state → among t
             [v.sessionTo x (s.sect x).state (t.sect x).state .timeSet none none (some b) (s.sect x).loaded]))) ∧
     ∀ b, OnlyDue s b m → (∀ e, b.stop = some e → m < e) → s.tableFree = true →
       ∃ t, exec (.setTime .scp payload) s = .next t ∧ StartedOn b s t ∧
         ∃ pre, Tells (s.accepted .scp 5) t
           (pre ++ v.startTold b (t.sect (spanSection b.span)).state
             (if b.origin = .scheduled then .start else .walkIn)))

/-- BOOK at a set table time: its checks in the order of R161, and, for an interval that nothing conflicts
with and that starts after now, the booking in its place in the list with the next free id, one BOOKING
notice ADDED to the SCP and the id in the answer, with nothing else changed but what is shown; one that
starts now runs at once, a session that still runs there after a SETTIME back ended first by assumption 42
(R161, R155, R156, R167, R170). The calendar's part of a BOOK whose start bounds an open walk-in, at or
beyond now + G and after now: the walk-in stays in the list, RUNNING, with that start as its end minute, and
the new booking is in the list (R160). A BOOK whose start lies after now and bounds open walk-ins alone,
each at or beyond now + G, is answered OK with its id: each walk-in keeps running with that start as its end
minute, and the new booking stands at its place in the list, after every one of them (R160, R155, R156).
What the BOOK of open walk-ins' sections tells and does: with a start after now, for each walk-in it bounds
BOOKING END_CHANGED of reason BOUNDED and the SESSION notice of a change to ENDING or out of it, then
BOOKING ADDED, and no others; with a start at now, G 0, each walk-in then reaches its end minute and ends
with reason TIME, and the new booking's session starts, all in the one event (R160, R161, R167, R170, R179,
R181). The order of two walk-ins (assumption 38), of SESSION and ADDED after END_CHANGED and before the ends
(assumption 15), and the lead port in a MODE notice (assumption 16) are the model's choices. -/
def Obligations.BookAddsABooking : Prop :=
  ((∀ (s : State) (payload : List Byte), s.takesFrom .scp → 12 ≤ payload.length →
      payload.length = 12 + byteAt payload 11 → payload.length ≤ 250 →
      let stop (code : ReplyCode) : Prop :=
        exec (.book .scp payload) s = .next (s.answers .scp 0x41 payload.length code [])
      (s.minute = none → stop .noTime) ∧
      ∀ now, s.minute = some now →
        (spanOf? (byteAt payload 0) = none ∨ profileOf? (byteAt payload 9) = none ∨
          sectOf? (byteAt payload 10) = none → stop .range) ∧
        ∀ sp n half, spanOf? (byteAt payload 0) = some sp → profileOf? (byteAt payload 9) = some n →
          sectOf? (byteAt payload 10) = some half →
          let a := word32At payload 1
          let e := word32At payload 5
          let fits : Prop := a + 5 ≤ e ∧ e ≤ a + 1440 ∧ now ≤ a ∧ a ≤ now + 20160 ∧ e ≤ 4294967294
          let clash := s.conflicting none sp (some a) (some e)
          let bound : Prop := ∀ b, b ∈ clash → b.state = .running ∧ b.origin = .walkIn ∧ b.stop = none ∧
            now + s.guardG ≤ a
          let b : Booking := { id := s.newId, span := sp, start := some a, stop := some e, profile := n,
                               lead := leadOf sp half, title := takeText 32 (payload.drop 12), roster := [],
                               origin := .scheduled, state := .pending }
          (¬ fits → stop .range) ∧ (fits → ¬ bound → stop .conflict) ∧
          (fits → bound → 64 ≤ s.bookings.length → stop .full) ∧
          (fits → clash = [] → s.bookings.length < 64 →
            (now < a → ∃ t, exec (.book .scp payload) s = .next t ∧
              t.bare = ({ s.answers .scp 0x41 payload.length .ok (enc16 s.newId) with
                bookings := insertBooking b s.bookings, lastId := s.newId }.modPort .scp (joinQueue
                  { sect := spanHeader (some sp), seat := none, minute := s.minute, second := s.second,
                    detail := .booking .added (some b.id) (some sp) (some a) (some e) none none none })).bare) ∧
            (a = now → ∃ t, exec (.book .scp payload) s = .next t ∧ StartedOn b s t ∧
              AnsweredAt s t .scp 0x41 payload.length .ok (enc16 s.newId)))) ∧
   (∀ (s : State) (now a e : Nat) (sp : Span) (n : ProfileNo) (lead : Sect) (title : Text) (w : Booking),
      now < a → intervalOk now a e = true → s.conflicting none sp (some a) (some e) = [w] →
      w.state = .running → w.origin = .walkIn → w.stop = none → now + s.guardG ≤ a → s.bookings.length < 64 →
      ∃ t, s.bookInterval now sp a e n lead title = (t, .now .ok (enc16 s.newId)) ∧
        { w with stop := some a } ∈ t.bookings ∧ t.bookings.length = s.bookings.length + 1 ∧
        ∃ b, b ∈ t.bookings ∧ b.id = s.newId ∧ b.state = .pending ∧ b.start = some a ∧ b.stop = some e)) ∧
  (∀ (s : State) (payload : List Byte) (now : Nat) (sp : Span) (n : ProfileNo) (half : Sect), s.takesFrom .scp →
     12 ≤ payload.length → payload.length = 12 + byteAt payload 11 → payload.length ≤ 250 → s.minute = some now →
     spanOf? (byteAt payload 0) = some sp → profileOf? (byteAt payload 9) = some n →
     sectOf? (byteAt payload 10) = some half →
     let a := word32At payload 1
     let e := word32At payload 5
     let clash := s.conflicting none sp (some a) (some e)
     let b : Booking := { id := s.newId, span := sp, start := some a, stop := some e, profile := n,
                          lead := leadOf sp half, title := takeText 32 (payload.drop 12), roster := [],
                          origin := .scheduled, state := .pending }
     let bounded : List Booking := s.bookings.map fun c => if c ∈ clash then { c with stop := some a } else c
     a + 5 ≤ e → e ≤ a + 1440 → now < a → a ≤ now + 20160 → e ≤ 4294967294 → s.bookings.length < 64 →
     (s.bookings.map fun c => c.id).Nodup →
     (∀ c, c ∈ clash → c.state = .running ∧ c.origin = .walkIn ∧ c.stop = none ∧ now + s.guardG ≤ a) →
     ∃ t, exec (.book .scp payload) s = .next t ∧ t.bookings = insertBooking b bounded ∧ t.lastId = s.newId ∧
       (s.bookings.Pairwise (fun c f => bookingBefore f c = false) → ∀ c, c ∈ clash →
         (∀ v, c.start = some v → v < a) →
         t.bookings.idxOf { c with stop := some a } < t.bookings.idxOf b ∧ b ∈ t.bookings) ∧
       AnsweredAt s t .scp 0x41 payload.length .ok (enc16 s.newId)) ∧
  (∀ (s : State) (payload : List Byte) (now : Nat) (sp : Span) (n : ProfileNo) (half : Sect), s.takesFrom .scp →
     12 ≤ payload.length → payload.length = 12 + byteAt payload 11 → payload.length ≤ 250 → s.minute = some now →
     spanOf? (byteAt payload 0) = some sp → profileOf? (byteAt payload 9) = some n →
     sectOf? (byteAt payload 10) = some half →
     let a := word32At payload 1
     let e := word32At payload 5
     let clash := s.conflicting none sp (some a) (some e)
     let b : Booking := { id := s.newId, span := sp, start := some a, stop := some e, profile := n,
                          lead := leadOf sp half, title := takeText 32 (payload.drop 12), roster := [],
                          origin := .scheduled, state := .pending }
     let u := s.accepted .scp payload.length
     let own : List Port × Notice := ([.scp], s.notice (spanHeader (some sp)) none
       (.booking .added (some b.id) (some sp) (some a) (some e) none none none))
     a + 5 ≤ e → e ≤ a + 1440 → now ≤ a → a ≤ now + 20160 → e ≤ 4294967294 → s.bookings.length < 64 →
     Boundable s now a clash →
     (now < a → ∃ t, exec (.book .scp payload) s = .next t ∧ Tells u t (s.boundsTold now a clash ++ [own]) ∧
       ∀ c, c ∈ clash → (t.sect (spanSection c.span)).state = s.boundState now a c) ∧
     (a = now → (∀ x k, s.runningBooking x = some k → spansShare k.span sp = true → k ∈ clash) →
       ∃ t, exec (.book .scp payload) s = .next t ∧ StartedOver b now clash own s u t ∧
         AnsweredAt s t .scp 0x41 payload.length .ok (enc16 s.newId)))

/-- MOVE: NO_TIME, NOT_FOUND, then for a PENDING booking FROZEN inside the freeze window, RANGE and
CONFLICT, and, with no conflict and a start after now, its new interval and place in the list with one
BOOKING notice MOVED, or nothing at all for the interval it has; for a RUNNING booking RANGE for another
start or an end outside now + 1 to now + 1440, CONFLICT, and otherwise the new end minute alone, told as
BOOKING END_CHANGED before any SESSION notice (assumption 15), with its section in ENDING or SESSION by the
test of R179, out of OVERRUN too, and GRACE as it was (R162, R170, R179). That a MOVE to the interval or end
it has is refused FROZEN or RANGE before it is answered OK is the model's choice (assumption 41). A MOVE of
a PENDING booking outside the freeze window to an interval in range that meets nothing but open walk-ins at
or beyond now + G: with a start after now each of those takes that start as its end minute and the booking
its new interval and place in the list, told as BOOKING END_CHANGED of reason BOUNDED, with the SESSION
notice of a change to or from ENDING, and then MOVED (order: assumptions 15, 38); with a start at now each
walk-in then reaches its end minute and ends with reason TIME, and the booking's session starts at once
(R162, R160, R167, R170, R179, R181), the lead port of a MODE notice by assumption 16, and a session that
still runs there after a SETTIME back ended first by assumption 42. -/
def Obligations.MoveChangesTheInterval : Prop :=
  (∀ (s : State) (payload : List Byte), s.takesFrom .scp → payload.length = 10 →
     let stop (code : ReplyCode) : Prop :=
       exec (.move .scp payload) s = .next (s.answers .scp 0x44 10 code [])
     let id := word16At payload 0
     let a := word32At payload 2
     let e := word32At payload 6
     (s.minute = none → stop .noTime) ∧ (s.minute ≠ none → s.booking id = none → stop .notFound) ∧
     ∀ now b, s.minute = some now → s.booking id = some b →
       (b.state = .pending →
         let fits : Prop := a + 5 ≤ e ∧ e ≤ a + 1440 ∧ now ≤ a ∧ a ≤ now + 20160 ∧ e ≤ 4294967294
         let clash := s.conflicting (some id) b.span (some a) (some e)
         let b' : Booking := { b with start := some a, stop := some e }
         (b.start.getD 0 < now + s.freezeF → stop .frozen) ∧
         (now + s.freezeF ≤ b.start.getD 0 → ¬ fits → stop .range) ∧
         (now + s.freezeF ≤ b.start.getD 0 → fits →
           (∃ c, c ∈ clash ∧ ¬ (c.state = .running ∧ c.origin = .walkIn ∧ c.stop = none ∧
             now + s.guardG ≤ a)) → stop .conflict) ∧
         (now + s.freezeF ≤ b.start.getD 0 → fits → clash = [] →
           (b.start = some a → b.stop = some e → stop .ok) ∧
           (¬ (b.start = some a ∧ b.stop = some e) → now < a →
             ∃ t, exec (.move .scp payload) s = .next t ∧
               t.bare = ({ s.answers .scp 0x44 10 .ok [] with
                 bookings := insertBooking b' (s.bookings.filter fun c => c.id ≠ id) }.modPort .scp (joinQueue
                   { sect := spanHeader (some b.span), seat := none, minute := s.minute, second := s.second,
                     detail := .booking .moved (some id) (some b.span) (some a) (some e) none none
                       none })).bare))) ∧
       (b.state = .running →
         (b.start ≠ some a ∨ e < now + 1 ∨ now + 1440 < e ∨ 4294967294 < e → stop .range) ∧
         (b.start = some a → now + 1 ≤ e → e ≤ now + 1440 → e ≤ 4294967294 →
           (s.conflicting (some id) b.span b.start (some e) ≠ [] → stop .conflict) ∧
           (s.conflicting (some id) b.span b.start (some e) = [] →
             ∃ t, exec (.move .scp payload) s = .next t ∧ SameBase s t ∧
               t.bookings = s.bookings.map (fun c => if c.id = id then
                 { c with stop := if b.stop = some e then c.stop else some e } else c) ∧
               (∀ i, SameUnit (s.seat i) (t.seat i) ∧ SameFloor (s.seat i) (t.seat i)) ∧
               AnsweredAt s t .scp 0x44 10 .ok [] ∧
               (s.runningBooking (spanSection b.span) = some b →
                 let x := spanSection b.span
                 let g := s.sect x
                 let due : Prop := g.settings.ending ≠ 0 ∧ e ≤ now + g.settings.ending
                 let after : SectState :=
                   match g.state with
                   | .session | .ending | .overrun => if due then .ending else .session
                   | other => other
                 (b.stop = some e → t.sect x = g ∧ Tells (s.accepted .scp 10) t []) ∧
                 (b.stop ≠ some e →
                   t.sect x = { g with
                     state := after,
                     grace := if g.state = .overrun then .stopped else g.grace,
                     idle := if g.state = .overrun then
                         (if s.quiet x then Timer.start g.settings.idle else .stopped)
                       else g.idle } ∧
                   (∀ y, y ≠ x → t.sect y = s.sect y) ∧
                   Tells (s.accepted .scp 10) t (s.endChangedTold x b e .move after))))))) ∧
  (∀ (s : State) (payload : List Byte) (now : Nat) (b : Booking), s.takesFrom .scp → payload.length = 10 →
     s.minute = some now → s.booking (word16At payload 0) = some b → b.state = .pending →
     let a := word32At payload 2
     let e := word32At payload 6
     let clash := s.conflicting (some b.id) b.span (some a) (some e)
     let b' : Booking := { b with start := some a, stop := some e }
     let bounded : List Booking := s.bookings.map fun c => if c ∈ clash then { c with stop := some a } else c
     now + s.freezeF ≤ b.start.getD 0 → a + 5 ≤ e → e ≤ a + 1440 → now ≤ a → a ≤ now + 20160 → e ≤ 4294967294 →
     ¬ (b.start = some a ∧ b.stop = some e) → (s.bookings.map fun c => c.id).Nodup →
     (now < a → (∀ c, c ∈ clash → c.state = .running ∧ c.origin = .walkIn ∧ c.stop = none ∧ now + s.guardG ≤ a) →
       ∃ t, exec (.move .scp payload) s = .next t ∧
         t.bookings = insertBooking b' (bounded.filter fun c => c.id ≠ b.id) ∧
         AnsweredAt s t .scp 0x44 10 .ok []) ∧
     (a = now → clash = [] → ∃ t, exec (.move .scp payload) s = .next t ∧ StartedOn b' s t ∧
       AnsweredAt s t .scp 0x44 10 .ok []) ∧
     (Boundable s now a clash →
       let u := s.accepted .scp 10
       let own : List Port × Notice := ([.scp], s.notice (spanHeader (some b.span)) none
         (.booking .moved (some b.id) (some b.span) (some a) (some e) none none none))
       (now < a → ∃ t, exec (.move .scp payload) s = .next t ∧ Tells u t (s.boundsTold now a clash ++ [own]) ∧
         ∀ c, c ∈ clash → (t.sect (spanSection c.span)).state = s.boundState now a c) ∧
       (a = now → (∀ x k, s.runningBooking x = some k → spansShare k.span b.span = true → k ∈ clash) →
         ∃ t, exec (.move .scp payload) s = .next t ∧ StartedOver b' now clash own s u t ∧
           AnsweredAt s t .scp 0x44 10 .ok [])))

/-- CANCEL: NO_TIME, NOT_FOUND, TOO_LATE for a RUNNING booking, FROZEN for one whose start lies before now +
F, in this order; otherwise the booking leaves the calendar with one BOOKING notice REMOVED, reason
CANCELLED, to the SCP, and nothing else changes but what is shown (R163). -/
def Obligations.CancelRemovesAPendingBooking : Prop :=
  ∀ (s : State) (payload : List Byte), s.takesFrom .scp → payload.length = 2 →
    let stop (code : ReplyCode) : Prop :=
      exec (.cancel .scp payload) s = .next (s.answers .scp 0x45 2 code [])
    let id := word16At payload 0
    (s.minute = none → stop .noTime) ∧ (s.minute ≠ none → s.booking id = none → stop .notFound) ∧
    ∀ now b, s.minute = some now → s.booking id = some b →
      (b.state = .running → stop .tooLate) ∧
      (b.state = .pending → b.start.getD 0 < now + s.freezeF → stop .frozen) ∧
      (b.state = .pending → now + s.freezeF ≤ b.start.getD 0 →
        ∃ t, exec (.cancel .scp payload) s = .next t ∧
          t.bare = ({ s.answers .scp 0x45 2 .ok [] with
            bookings := s.bookings.filter fun c => c.id ≠ id }.modPort .scp (joinQueue
              { sect := spanHeader (some b.span), seat := none, minute := s.minute, second := s.second,
                detail := .booking .removed (some id) (some b.span) b.start b.stop (some .cancelled) none
                  none })).bare)

/-- ROSTER puts its entries into one booking's roster, an entry of the same seat replaced by the last that
names it, every other entry kept and the seat order too, where the pool of 512 has room for its new seats,
and UNROSTER takes one entry or all of them out; the answers hold the counts, and nothing else changes but
what is shown. Each name is cut to 24 characters, each outside 20h to 7Eh made "?". Refused, in order:
NOT_FOUND for the id; RANGE for a seat above 47, a share code other than 0 to 7 and FFh or an empty name;
then FULL, or NOT_FOUND for a seat with no entry (R157, R158, R159). That a count byte stands before the
entries of ROSTER's payload, and that the answers give the free entries of the pool in two bytes, is the
model's reading (assumptions 8 and 22). -/
def Obligations.RosterCommandsChangeOneRoster : Prop :=
  ∀ (s : State) (payload : List Byte), s.takesFrom .scp → payload.length ≤ 250 →
    let id := word16At payload 0
    let counts (t : State) (roster : List RosterEntry) : List Byte :=
      enc8 roster.length ++ enc16 (512 - (t.bookings.map fun c => c.roster.length).sum)
    let put (roster : List RosterEntry) : List Booking :=
      s.bookings.map fun c => if c.id = id then { c with roster := roster } else c
    (∀ raw, rosterRaw payload = some raw →
      let n := payload.length
      (s.booking id = none → exec (.roster .scp payload) s = .next (s.answers .scp 0x42 n .notFound [])) ∧
      ∀ b, s.booking id = some b → (s.bookings.map fun c => c.id).Nodup →
        let bad : Prop := ∃ r, r ∈ raw ∧ (47 < r.seat ∨ 7 < r.share ∧ r.share ≠ 255 ∨ r.name = [])
        (bad → exec (.roster .scp payload) s = .next (s.answers .scp 0x42 n .range [])) ∧
        (¬ bad → ∃ es : List RosterEntry, es.length = raw.length ∧
          (∀ e r, (e, r) ∈ es.zip raw → e.seat.val = r.seat ∧
            e.share = (if r.share = 255 then none else some r.share) ∧
            e.name = (r.name.take 24).map fun c => if 0x20 ≤ c.toNat ∧ c.toNat ≤ 0x7E then c else 0x3F) ∧
          let used := (s.bookings.map fun c => c.roster.length).sum
          (512 - used < (newSeats b.roster es).length →
            exec (.roster .scp payload) s = .next (s.answers .scp 0x42 n .full [])) ∧
          ((newSeats b.roster es).length ≤ 512 - used →
            ∃ t, exec (.roster .scp payload) s = .next t ∧
              (∀ e, e ∈ es → ∃ f, f ∈ putEntries b.roster es ∧ f.seat = e.seat) ∧
              (∀ i, let at_ (l : List RosterEntry) := l.find? fun f => f.seat = i
                at_ (putEntries b.roster es) = match at_ es.reverse with
                  | some e => some e
                  | none => at_ b.roster) ∧
              ((b.roster.Pairwise fun e f => e.seat.val < f.seat.val) →
                (putEntries b.roster es).Pairwise fun e f => e.seat.val < f.seat.val) ∧
              t.bare = { s.answers .scp 0x42 n .ok (counts t (putEntries b.roster es)) with
                         bookings := put (putEntries b.roster es) }.bare))) ∧
    (payload.length = 2 ∨ payload.length = 3 →
      let n := payload.length
      (s.booking id = none → exec (.unroster .scp payload) s = .next (s.answers .scp 0x43 n .notFound [])) ∧
      ∀ b, s.booking id = some b → (s.bookings.map fun c => c.id).Nodup →
        (n = 2 → ∃ t, exec (.unroster .scp payload) s = .next t ∧
          t.bare = { s.answers .scp 0x43 n .ok (enc8 b.roster.length ++ counts t []) with
                     bookings := put [] }.bare) ∧
        (n = 3 → 47 < byteAt payload 2 →
          exec (.unroster .scp payload) s = .next (s.answers .scp 0x43 n .range [])) ∧
        (∀ i, n = 3 → seatOf? (byteAt payload 2) = some i →
          let left := b.roster.filter fun e => e.seat ≠ i
          ((b.roster.any fun e => e.seat = i) = false →
            exec (.unroster .scp payload) s = .next (s.answers .scp 0x43 n .notFound [])) ∧
          ((b.roster.any fun e => e.seat = i) = true → ∃ t, exec (.unroster .scp payload) s = .next t ∧
            t.bare = { s.answers .scp 0x43 n .ok
                (enc8 (b.roster.length - left.length) ++ counts t left) with bookings := put left }.bare)))

/-- CLEARTABLE, in every state: every running section's session is over and its floor closed, the booking
list is empty, both sections have the settings of working profile 0, every seat's cumulative speaking
seconds are 0, and the answer holds how many bookings there were; each end is told with reason CLEARED, A
before B, then one BOOKING CLEARED; table time, table mode, K, lead port, profiles, store, F and G, the last
id and every unit stay (R171, R98, R29, R164, R185, R188). -/
def Obligations.ClearTableClears : Prop :=
  ∀ s : State, s.takesFrom .scp →
    ∃ t, exec (.clearTable .scp []) s = .next t ∧ SameBase s t ∧ t.bookings = [] ∧
      (∀ x, (t.sect x).settings = s.profiles[0] ∧ (t.sect x).loaded = 0 ∧
        ((s.sect x).state.running = true → (t.sect x).state = .free ∧ (t.sect x).booking = none ∧
          (t.sect x).queue = [] ∧ (t.sect x).holders = [] ∧ (t.sect x).console = false ∧
          (t.sect x).clockHold = false ∧ (t.sect x).chairs = [] ∧ (t.sect x).grace = .stopped ∧
          (t.sect x).idle = .stopped ∧
          ∀ i, s.sectionOf i = x → (t.seat i).part = none ∧ (t.seat i).mic.onFloor = false ∧
            ((s.seat i).mic = .active ∨ (s.seat i).mic = .suspended → (t.seat i).mic = .closing)) ∧
        ((s.sect x).state.running = false → (t.sect x).state = (s.sect x).state ∧
          ∀ i, s.sectionOf i = x → (t.seat i).mic = (s.seat i).mic)) ∧
      (∀ i, (t.seat i).cumul = 0 ∧ SameUnit (s.seat i) (t.seat i)) ∧
      AnsweredAt s t .scp 0x49 0 .ok (enc8 s.bookings.length) ∧
      (s.secA.booking = none ∨ s.secA.booking ≠ s.secB.booking →
        let ended (x : Sect) : List (List Port × Notice) :=
          if (s.sect x).state.running = true then s.endTold x .cleared .cleared else []
        Tells (s.accepted .scp 0) t (ended .a ++ ended .b ++
          [([.scp], s.notice none none (.booking .cleared none none none none none none none))]))

/-! ### The one-second clock (spec/09 10.1, 10.6, spec/08 9.1) -/

/-- SECOND_TICK after the load: the second advances; past 59 it becomes 0, and a minute count present and
below its last value advances, with the minute event, after which no PENDING booking is due (R152, R167);
without one no session, seat or booking changes. Every tick sends a poll: one that finds the last unanswered
raises the poll miss count, and at 3 every present flag is clear (R133). MINUTE_EVENT and POLL_MISS_LIMIT
act as that whole tick in the case each names and change nothing in any other (assumption 4). SOURCES
replaces the present flags, sets the poll miss count to 0 and answers the poll; nothing else changes but
what is shown. That none of the four acts while the load runs is read from R195 for the tick, and for
SOURCES the model's choice (assumption 13). A minute event with x running b and none due to start: at its
end minute GRACE, SESSION and ENDING end with reason TIME, but the last two enter OVERRUN where its limit is
not 0 and a delegate speaks: queue emptied, PENDING delegates closed, speakers left. OVERRUN ends at its
limit and else stays. Before the end minute SESSION becomes ENDING just where the warning time is reached,
and other states stay (R167, R173, R179, R181, R182). At the start of the one PENDING booking then due, on a
free table, its session starts: the booking RUNNING, the table in its span's mode with the lead half of a
JOINED one as lead port, its section holding it with its profile's settings, no presenter, clock hold clear,
its counters 1, its first two CHAIR-class seats, of the lead half when JOINED, as chairs, in GRACE with the
timer started or, with a grace time of 0, in SESSION or ENDING, and every seat with a part of role, roster
name and override, cumulative seconds 0 (R167, R173, R174, R26, R30, R94, R98). An end, the entry to OVERRUN
and a warning tell their notices; a start tells only its SESSION notices, B's of reason MODE first (R185,
R188), with the lead port of a JOINED booking already set (assumption 16). -/
def Obligations.TicksAndSources : Prop :=
  ((∀ s : State,
      let minute : Prop := 59 ≤ s.second ∧ ∃ m, s.minute = some m ∧ m < 4294967294
      let third : Prop := s.polled = true ∧ s.pollMiss = 2
      (s.starting = true → exec .secondTick s = .next s ∧ exec .minuteEvent s = .next s ∧
        exec .pollMissLimit s = .next s) ∧
      (¬ minute → exec .minuteEvent s = .next s) ∧ (¬ third → exec .pollMissLimit s = .next s) ∧
      ∀ c, s.starting = false →
        (c = .secondTick ∨ c = .minuteEvent ∧ minute ∨ c = .pollMissLimit ∧ third) →
        ∃ t, exec c s = .next t ∧
          t.second = (if s.second < 59 then s.second + 1 else 0) ∧
          (minute → t.minute = s.minute.map (· + 1) ∧
            ∀ b m, b ∈ t.bookings → b.state = .pending → t.minute = some m → m < b.start.getD 0) ∧
          (¬ minute → t.minute = s.minute ∧ t.bookings = s.bookings ∧ t.secA = s.secA ∧ t.secB = s.secB ∧
            t.mode = s.mode ∧ ∀ i, SameFloor (s.seat i) (t.seat i)) ∧
          t.polled = true ∧
          t.pollMiss = (if s.polled then if s.pollMiss < 2 then s.pollMiss + 1 else 3 else s.pollMiss) ∧
          t.present = (if s.polled ∧ 2 ≤ s.pollMiss then Vector.replicate 8 false else s.present) ∧
          (∀ i, SameUnit (s.seat i) (t.seat i)) ∧ t.profiles = s.profiles ∧ t.stored = s.stored ∧
          t.write = s.write ∧ t.k = s.k ∧ t.place = s.place ∧
          ∀ p, NoticesOnly (s.port p) (t.port p)) ∧
   (∀ (present : Vector Bool 8) (s : State),
      (s.starting = true → exec (.sources present) s = .next s) ∧
      (s.starting = false → ∃ t, exec (.sources present) s = .next t ∧
        t.bare = { s with present := present, pollMiss := 0, polled := false }.bare))) ∧
  (∀ (s : State) (x : Sect) (b : Booking) (m : Nat), s.starting = false → s.second = 59 → s.minute = some m →
     m + 1 ≤ 4294967294 → RunsOn x b s → (∀ c, c ∈ s.bookings → c.state = .pending → m + 1 < c.start.getD 0) →
     let g := s.sect x
     let ends : Prop := b.stop = some (m + 1)
     let speaks : Prop := g.settings.overrun ≠ 0 ∧ s.speakingDelegates x ≠ 0
     let v : State := { s with minute := some (m + 1), second := 0 }
     let w : State := v.modSect x fun r =>
       if r.state = .session ∧ r.settings.ending ≠ 0 then { r with state := .ending } else r
     let among (t : State) (l : List (List Port × Notice)) : Prop := ∃ pre post, Tells s t (pre ++ l ++ post)
     let over_ (t : State) (why : EndReason) (reason : SessionReason) : Prop :=
       SessionOver x s t ∧ among t (w.endTold x why reason)
     ∀ c, c = .secondTick ∨ c = .minuteEvent → ∃ t, exec c s = .next t ∧ t.minute = some (m + 1) ∧ t.second = 0 ∧
       (g.state = .grace → ends → over_ t .time .time) ∧
       (g.state = .session ∨ g.state = .ending → ends → ¬ speaks → over_ t .time .time) ∧
       (g.state = .session ∨ g.state = .ending → ends → speaks →
         (t.sect x).state = .overrun ∧ (t.sect x).queue = [] ∧ (t.sect x).idle = .stopped ∧
           (t.sect x).booking = some b.id ∧
           ∀ i, s.sectionOf i = x → ((s.seat i).isDelegate = true → (s.seat i).mic = .pending →
               (t.seat i).mic = .closed) ∧
             ((s.seat i).mic = .active ∨ (s.seat i).mic = .suspended → SameFloor (s.seat i) (t.seat i))) ∧
       (g.state = .session ∨ g.state = .ending → ends → speaks → among t
         (w.sessionTo x (w.sect x).state .overrun .overrun none none (some b) g.loaded ::
           w.closedTold x .overrun (s.delegateCount x)
             (s.seatsWhere x fun r => r.isDelegate && r.mic = .pending) ++
           [w.queueTo x none .cleared .overrun none none none 0])) ∧
       (∀ e, g.state = .overrun → b.stop = some e →
         (e + g.settings.overrun ≤ m + 1 → over_ t .overrunDone .overrunDone) ∧
         (m + 1 < e + g.settings.overrun → (t.sect x).state = .overrun)) ∧
       (g.state = .session → ¬ ends → (t.sect x).booking = some b.id ∧ (t.sect x).state =
         if (∃ e, b.stop = some e ∧ g.settings.ending ≠ 0 ∧ e ≤ m + 1 + g.settings.ending) then .ending
         else .session) ∧
       (∀ e, g.state = .session → b.stop = some e → e ≠ m + 1 → g.settings.ending ≠ 0 →
         e ≤ m + 1 + g.settings.ending →
         among t [v.sessionTo x .session .ending .warning none none (some b) g.loaded]) ∧
       (g.state = .grace ∨ g.state = .ending → ¬ ends →
         (t.sect x).booking = some b.id ∧ (t.sect x).state = g.state)) ∧
  (∀ (s : State) (b : Booking) (m : Nat), s.starting = false → s.second = 59 → s.minute = some m →
     m + 1 ≤ 4294967294 → OnlyDue s b (m + 1) → s.tableFree = true →
     let v : State := { s with minute := some (m + 1), second := 0 }
     ∀ c, c = .secondTick ∨ c = .minuteEvent → ∃ t, exec c s = .next t ∧ StartedOn b s t ∧
       Tells s t (v.startTold b (t.sect (spanSection b.span)).state
         (if b.origin = .scheduled then .start else .walkIn)))

/-! ### The display link (spec/08 9.5) -/

/-- ACK of the version in flight clears it and stops the timer; the screen is ONLINE, with a SCREEN notice
to the MDP where it was not; a dirty screen is sent its next update at once, with the next version and the
resolved layout. An ACK of another version, with nothing in flight or from a screen above 3 changes nothing.
A HELLO abandons any update, makes the screen ONLINE with a notice where it was not, and sends its layout at
once under a new version; one naming a screen above 3 changes nothing. Nothing else changes (R144, R145,
R147, R148). ACK_TIMEOUT with an update in flight: nothing is in flight, the screen is dirty and its timer
stopped, and a screen that was UNKNOWN or ONLINE is OFFLINE, with one SCREEN notice to the MDP; nothing else
changes. That ACK_TIMEOUT changes nothing with no update in flight is the model's choice (assumption 5). At
each second an OFFLINE screen that is dirty with nothing in flight is sent a retry with a new version and
the resolved layout as the tick leaves it, and is OFFLINE still (R146); that retries come last in a tick is
the model's choice (assumption 26). Every step keeps this: a screen that is not dirty has been sent the
layout it holds, under the version sent; the in-flight version is the version sent; the timer runs while an
update is in flight; and after the load a dirty screen with nothing in flight is OFFLINE, since an UNKNOWN
or ONLINE one has been sent its update (R143, R144). A step sends a screen at most one update, under the
next version, past 65534 to 1, and none while one is in flight but at its ACK or a HELLO; a screen whose
layout it changed is dirty or has been sent that layout, and one whose effective section it changed is dirty
or has been sent its layout in that step, be it the same (R143). -/
def Obligations.DisplayLinkUpdates : Prop :=
  ((∀ (n : ScreenNo) (s : State),
      let r := s.screen n
      let fresh : Nat := match r.version with
        | none => 1
        | some v => if 65534 ≤ v then 1 else v + 1
      let online : Notice := { sect := some r.eff, seat := none, minute := s.minute, second := s.second,
                               detail := .screen n .online r.version }
      let told (t : State) : State :=
        if r.link = .online then t else t.modPort .mdp (joinQueue online)
      let sent : ScreenRec := { r with link := .online, dirty := false, version := some fresh,
                                       inFlight := some fresh, ackTimer := some 250,
                                       sent := some (fresh, r.layout) }
      (∀ v, r.inFlight = some v →
        (r.dirty = false → exec (.ack n.val v) s =
          .next (told (s.modScreen n fun _ => { r with link := .online, inFlight := none, ackTimer := none }))) ∧
        (r.dirty = true → exec (.ack n.val v) s = .next (told (s.modScreen n fun _ => sent)))) ∧
      (∀ v, r.inFlight ≠ some v → exec (.ack n.val v) s = .next s) ∧
      (s.starting = false → exec (.hello n.val) s = .next (told (s.modScreen n fun _ => sent))) ∧
      (∀ m v, 3 < m → exec (.ack m v) s = .next s ∧ exec (.hello m) s = .next s)) ∧
   ((∀ (n : ScreenNo) (s : State),
      let r := s.screen n
      let down : ScreenRec := { r with link := .offline, dirty := true, inFlight := none, ackTimer := none }
      (r.inFlight = none → exec (.ackTimeout n) s = .next s) ∧
      (r.inFlight ≠ none → r.link = .offline →
        exec (.ackTimeout n) s = .next (s.modScreen n fun _ => down)) ∧
      (r.inFlight ≠ none → r.link ≠ .offline →
        exec (.ackTimeout n) s = .next ((s.modScreen n fun _ => down).modPort .mdp (joinQueue
          { sect := some r.eff, seat := none, minute := s.minute, second := s.second,
            detail := .screen n .offline r.version })))) ∧
    ∀ (n : ScreenNo) (s : State), s.starting = false → (s.screen n).link = .offline →
      (s.screen n).dirty = true → (s.screen n).inFlight = none →
      ∃ t v, exec .secondTick s = .next t ∧ (t.screen n).link = .offline ∧ (t.screen n).dirty = false ∧
        (t.screen n).inFlight = some v ∧ (t.screen n).version = some v ∧ (s.screen n).version ≠ some v ∧
        (t.screen n).sent = some (v, (t.screen n).layout))) ∧
  ((∀ s t : State, LinkFits s → step s = .next t → LinkFits t) ∧
   ∀ (c : Instr) (s t : State), exec c s = .next t → c ≠ .hardwareReset → ∀ n : ScreenNo,
     let r := s.screen n
     let q := t.screen n
     let v : Nat := match r.version with
       | none => 1
       | some v => if v < 65534 then v + 1 else 1
     (q.version = r.version ∧ q.sent = r.sent ∨
       q.version = some v ∧ q.inFlight = some v ∧ q.ackTimer = some 250 ∧ (q.sent.map fun u => u.1) = some v) ∧
     (r.inFlight ≠ none → (∀ w, c ≠ .ack n.val w) → c ≠ .hello n.val → q.version = r.version ∧ q.sent = r.sent) ∧
     (q.layout ≠ r.layout → q.dirty = false → (q.sent.map fun u => u.2) = some q.layout) ∧
     (q.eff ≠ r.eff → q.dirty = true ∨
       q.version = some v ∧ q.inFlight = some v ∧ (q.sent.map fun u => u.2) = some q.layout))

/-! ### Reset and start-up (spec/11 12.4) -/

/-- A hardware reset, in every state: every port record is empty with STARTING set (R195); every seat is
ABSENT with empty counts, no fault record, kind or acknowledged version and event sequence 0 (R21), its mic
CLOSED with ramp 0 and no slot, stamp, flag or turn, and cumulative speaking seconds 0 (R85, R102); its LED
ring is DARK with the duty and half-periods of working profile 0 and tag 0, its nameplate empty, both
versions 1 (R132); both sections have empty queues and holder sets, stamp counter 1, clip counters 0 and
clock hold clear; table time is unset, the booking list empty; every screen is UNKNOWN and dirty with no
version, the layout of its effective section resolved (R151); no ring has a visit open; frame place and
outputs 0 (R122); a write in progress is abandoned, and every stored item that is whole and in range stays
as it was (R196). That the working seat map, profiles, default mode, assignment, F and G are loaded in the
reset itself, and that the commands that wait in the queue stay, is the model's choice (assumption 19).
After a hardware reset section A is FREE and B MERGED, with no booking, chairs, presenter or timer, and the
settings of working profile 0 (R24, R172); a stored item that is absent or out of range is loaded with its
factory values of Table 12-6 and rewritten with them (R196). -/
def Obligations.HardwareResetSetsResetValues : Prop :=
  (∀ s : State, ∃ t, exec .hardwareReset s = .next t ∧ t.pending = s.pending ∧ t.starting = true ∧
     (∀ p, (t.port p).busy = false ∧ (t.port p).noticeLost = false ∧ (t.port p).framing = false ∧
       (t.port p).overrun = false ∧ (t.port p).replyLost = false ∧ (t.port p).reply = none ∧
       (t.port p).notices = []) ∧
     (∀ i, (t.seat i).presence = .absent ∧ (t.seat i).bringUp = 0 ∧ (t.seat i).miss = 0 ∧
       (t.seat i).kind = none ∧ (t.seat i).fault = none ∧ (t.seat i).ackRing = none ∧
       (t.seat i).ackPlate = none ∧ (t.seat i).expectSeq = 0 ∧ (t.seat i).mic = .closed ∧
       (t.seat i).ramp = 0 ∧ (t.seat i).slot = none ∧ (t.seat i).stamp = none ∧
       (t.seat i).byPriority = false ∧ (t.seat i).turn = none ∧ (t.seat i).cumul = 0 ∧
       (t.seat i).part = none ∧
       (t.seat i).ring = { state := .dark, duty := t.profiles[0].bright, blink := 0,
                           flash := (t.profiles[0].blink + 1) * 100 / 4, tag := 0 } ∧
       (t.seat i).ringVer = 1 ∧ (t.seat i).plate = ⟨[], []⟩ ∧ (t.seat i).plateVer = 1 ∧
       (t.seat i).denyTag = 0) ∧
     (∀ d, (t.ring d).visit = none ∧ (t.ring d).next = 0) ∧
     (∀ x, (t.sect x).queue = [] ∧ (t.sect x).holders = [] ∧ (t.sect x).console = false ∧
       (t.sect x).stampCtr = 1 ∧ (t.sect x).reqCtr = 1 ∧ (t.sect x).clockHold = false ∧
       (t.sect x).busClip = 0 ∧ (t.sect x).feedClip = 0 ∧ (t.sect x).presenter = none ∧
       (t.sect x).booking = none) ∧
     t.minute = none ∧ t.second = 0 ∧ t.bookings = [] ∧ t.place = 0 ∧ t.out1 = 0 ∧ t.out2 = 0 ∧
     t.present = Vector.replicate 8 false ∧ t.pollMiss = 0 ∧
     (∀ n, (t.screen n).link = .unknown ∧ (t.screen n).dirty = true ∧ (t.screen n).version = none ∧
       (t.screen n).inFlight = none ∧ (t.screen n).ackTimer = none ∧
       (t.screen n).eff = effSection t.defMode (t.screen n).assigned ∧ (t.screen n).layout = t.resolved n) ∧
     t.write = none ∧ t.tablePending = false ∧
     (∀ m, s.stored.map = some m → mapOk m = true → t.stored.map = some m ∧ ∀ i, (t.seat i).map = m[i]) ∧
     (∀ (n : ProfileNo) q, s.stored.profiles[n] = some q → profileOk q = true →
       t.stored.profiles[n] = some q ∧ t.profiles[n] = q) ∧
     (∀ d, s.stored.table = some d → tableOk d = true → t.stored.table = some d ∧ t.defMode = d.defMode ∧
       t.freezeF = d.freezeF ∧ t.guardG = d.guardG)) ∧
  (∀ s : State, ∃ t, exec .hardwareReset s = .next t ∧
     t.secA.state = .free ∧ t.secB.state = .merged ∧ t.mode = .joined ∧ t.lead = .a ∧ t.lastId = 0 ∧
     (∀ x, (t.sect x).settings = t.profiles[0] ∧ (t.sect x).loaded = 0 ∧ (t.sect x).chairs = [] ∧
       (t.sect x).grace = .stopped ∧ (t.sect x).idle = .stopped) ∧
     ((∀ m, s.stored.map = some m → mapOk m = false) →
       t.stored.map = some factoryMap ∧ ∀ i, (t.seat i).map = factoryMap[i]) ∧
     (∀ n : ProfileNo, (∀ q, s.stored.profiles[n] = some q → profileOk q = false) →
       t.stored.profiles[n] = some factoryProfile ∧ t.profiles[n] = factoryProfile) ∧
     ((∀ d, s.stored.table = some d → tableOk d = false) →
       t.stored.table = some factoryTable ∧ t.defMode = factoryTable.defMode ∧
         t.freezeF = factoryTable.freezeF ∧ t.guardG = factoryTable.guardG ∧
         ∀ n, (t.screen n).assigned = factoryTable.assign[n]))

/-- The completion of the start-up load clears STARTING, gives the table its default mode and stored split
position, makes section B MERGED in JOINED mode and FREE in DIVIDED mode, and sends every screen that was
UNKNOWN, dirty and without an update in flight its first (R195, R24, R151). That it changes nothing where no
load runs is the model's choice (assumption 13), and so is the model's own State.reset, the state before
that completion with factory values in the store (assumption 3). -/
def Obligations.StartUpLoadCompletes : Prop :=
  ∀ s : State,
    (s.starting = false → exec .startUpLoadComplete s = .next s) ∧
    (s.starting = true → ∀ d, s.stored.table = some d → ∃ t, exec .startUpLoadComplete s = .next t ∧
      t.starting = false ∧ t.mode = s.defMode ∧ t.k = d.k ∧ t.secA = s.secA ∧
      t.secB.state = (match s.defMode with
        | .joined => .merged
        | .divided => .free) ∧
      t.bookings = s.bookings ∧ t.profiles = s.profiles ∧ t.stored = s.stored ∧
      (∀ p, t.port p = s.port p) ∧
      (∀ i, SameUnit (s.seat i) (t.seat i) ∧ SameFloor (s.seat i) (t.seat i)) ∧
      (∀ n, (t.screen n).assigned = (s.screen n).assigned ∧
        (t.screen n).eff = effSection s.defMode (s.screen n).assigned) ∧
      (∀ n, (s.screen n).link = .unknown → (s.screen n).dirty = true → (s.screen n).inFlight = none →
        (t.screen n).inFlight ≠ none ∧ (t.screen n).dirty = false ∧
          ∃ v, (t.screen n).sent = some (v, (t.screen n).layout))) ∧
    State.reset.starting = true ∧ exec .hardwareReset State.reset = .next State.reset

/-! ### What every step keeps -/

/-- Every step keeps the ranges of the spec's counts: a notice queue holds at most 16 notices, the calendar
at most 64 bookings with ids all different, a request queue at most 24 entries; the second is at most 59,
the minute at most 4,294,967,294, the poll miss count at most 3, the frame's place at most 959, cumulative
speaking seconds at most 65535 and a denial tag at most 255; each roster stands in seat order, a seat once,
and all hold at most 512 entries (R157). Every step keeps the split position within 4 to 20, in the working
copy, in the store and in a write in progress. It keeps bring-up counts at most 100, miss counts at most 3,
expected event sequences at most 255 (R17), record versions 1 to 254 (R123), screen versions, stamp and
request counters 1 to 65534 (R144, R64, R48) and clip counters at most 65535 (R115). It keeps working
profiles, working settings, the seat map, F and G, the stored items and an item that is being written within
their ranges, crops within the picture (R121, R139, R140, R164, R186, R187, R197), and the remaining seconds
of a turn within -3600 to 3600 (R86). -/
def Obligations.StepKeepsWithinRanges : Prop :=
  (∀ s t : State, WithinRanges s → step s = .next t → WithinRanges t) ∧
  (∀ s t : State, SplitFits s → step s = .next t → SplitFits t) ∧
  (∀ s t : State, CountersFit s → step s = .next t → CountersFit t) ∧
  ∀ s t : State, SettingsFit s → step s = .next t → SettingsFit t

/-- Every step keeps the relations of each seat's mic part and turn (Table 5-1, R60, R86). -/
def Obligations.StepKeepsMicsFit : Prop :=
  ∀ s t : State, MicsFit s → step s = .next t → MicsFit t

/-- Every step keeps the request queues in form: each entry is of a seat of its own section, a seat has at
most one, and a section that is FREE or MERGED has none (R23, R47), while the start-up load finds a free
table with empty queues and an empty booking list, which every step keeps too (R24, R195). A step that
changes the table mode or the split position keeps the queues where it finds the table free, or the calendar
agreeing with the sections, by which the sessions that a starting booking finds are over before the division
changes (R26, R28, R182). Every step keeps the whole table in form: the ranges, the idle load, the mic
relations, the queues, the floor (slots 0 to 7, each held once in a section; a seat that is not READY CLOSED
and not queued; the flag an acting chair's alone; no one on the floor outside SESSION, ENDING and OVERRUN; a
delegate count of at most N and at most two acting chairs, the holders among them; PROMOTED entries before
NORMAL ones) and the calendar's agreement with the sections, its list in booking order, B MERGED while the
table is JOINED and at no other time (R23, R30, R47, R60, R65, R66, R75, R155, R156, R157, R167, R172,
R181). Every step that does not set table time back keeps RUNNING bookings begun; a SETTIME back can leave
one whose start lies ahead, which R154 lets run on. A start that it meets ends it, the model's choice
(assumption 42). -/
def Obligations.StepKeepsQueuesFit : Prop :=
  ((∀ s t : State, LoadIdle s → step s = .next t → LoadIdle t) ∧
   ∀ s t : State, QueuesFit s → LoadIdle s → step s = .next t →
     (t.mode = s.mode ∧ t.k = s.k) ∨ s.tableFree = true ∨ TableFits s → QueuesFit t) ∧
  ((∀ s t : State, TableFits s → step s = .next t → TableFits t) ∧
   ∀ s t : State, TableFits s → RunningBegun s → step s = .next t →
     (∀ m m', s.minute = some m → t.minute = some m' → m ≤ m') → RunningBegun t)

/-- Every step keeps what is shown current: after the last report is taken, the records of READY seats show
the state as it then stands, and each screen holds the layout resolved from it (R123, R143; which events
recompose and resolve is the model's reading, assumption 9). A seat that is not READY keeps its records and
versions (R131). The version of a record that a step has not changed stays, and that of one it has changed
advances once, past 254 to 1 and past the acknowledged version, so that a changed record is unacknowledged
(R123); an answer with several key events may advance it for each. What is composed: the ring state of Table
8-2, DARK in FREE and GRACE; the half-periods of Table 8-1 with the duty and the denial tag (R124, R125);
the name line, the occupant's name or the seat label (R126); the status lines of Tables 8-3 and 8-4, by
their first line that applies, and PRESS KEY TO BEGIN in GRACE (R127); in a FREE section the next booking of
the seat's half, with its roster name or title and its times, or AVAILABLE (R128). What is resolved, tile by
tile with its geometry: an INPUT tile, and a PRESENTER tile by the source its presenter owns (R134), PICTURE
where the source is present and NO SIGNAL where not; without a presenter the SPEAKERS caption; BLACK for
BLANK (R141). The captions: SPEAKERS with the ACTIVE seats, oldest stamp first, or NO SPEAKERS; QUEUE with
places and names, beyond eight entries seven and +m MORE; AGENDA with title, state line and the PENDING
bookings that concern the section, or AVAILABLE, up to eight lines of 32 characters (R142). -/
def Obligations.StepKeepsShownCurrent : Prop :=
  (∀ s t : State, ShownCurrent s → step s = .next t → ShownCurrent t) ∧
  (∀ (c : Instr) (s t : State), exec c s = .next t → c ≠ .hardwareReset → ∀ i : Seat,
     let r := s.seat i
     let q := t.seat i
     let next (v : Nat) : Nat := if v < 254 then v + 1 else 1
     let bump (v : Nat) (acked : Option Nat) : Nat := if acked = some (next v) then next (next v) else next v
     (q.presence ≠ .ready →
       q.ring = r.ring ∧ q.ringVer = r.ringVer ∧ q.plate = r.plate ∧ q.plateVer = r.plateVer) ∧
     (q.ring ≠ r.ring → q.ackRing ≠ some q.ringVer) ∧ (q.plate ≠ r.plate → q.ackPlate ≠ some q.plateVer) ∧
     ((∀ d m f l a b x, c = .answerArrival d m → m.content = .ready f l a b x → l.length ≤ 1) →
       q.ringVer = (if q.ring = r.ring then r.ringVer else bump r.ringVer q.ackRing) ∧
       q.plateVer = (if q.plate = r.plate then r.plateVer else bump r.plateVer q.ackPlate))) ∧
  (∀ (s : State) (i : Seat),
     let x := s.sectionOf i
     let g := s.sect x
     let r := s.seat i
     let h : Nat := (g.settings.blink + 1) * 100
     let c := s.composeRing i
     let p := s.composePlate i
     let open_ : Prop := g.state = .session ∨ g.state = .ending ∨ g.state = .overrun
     let idle : Prop := r.mic = .closed ∨ r.mic = .closing
     let limited (f : Turn → Bool) : Prop := ∃ q, r.turn = some q ∧ q.budget ≠ 0 ∧ f q = true
     let entered : Prop := ∃ e, e ∈ g.queue ∧ e.seat = i
     let first : Prop := ∃ e, g.queue.head? = some e ∧ e.seat = i
     let two (n : Nat) : Text := [BitVec.ofNat 8 (48 + n / 10 % 10), BitVec.ofNat 8 (48 + n % 10)]
     let clock (n : Nat) : Text := two (n / 60) ++ txt ":" ++ two (n % 60)
     let day (m : Nat) : Text := clock (m % 1440)
     let label : Text := if i.val < 24 then txt "N" ++ dec i.val else txt "S" ++ dec (i.val - 24)
     let quiet : Prop := ∀ b, s.runningBooking x = some b →
       (∀ e, g.state = .ending → b.stop = some e → p.status = txt "ENDS " ++ day e) ∧
       (g.state = .session → p.status = b.title.take 24)
     (c.duty = g.settings.bright ∧ c.flash = h / 4 ∧ c.tag = r.denyTag ∧
       c.blink = (match c.state with
         | .request => h
         | .warning => h / 2
         | .overtime => h / 4
         | .dark | .next | .speaking | .suspended => 0)) ∧
     (¬ open_ → c.state = .dark) ∧
     (open_ →
       (r.mic = .suspended → c.state = .suspended) ∧
       (r.mic = .active → limited (fun q => q.expired) → c.state = .overtime) ∧
       (r.mic = .active → ¬ limited (fun q => q.expired) → limited (fun q => q.warned) → c.state = .warning) ∧
       (r.mic = .active → ¬ limited (fun q => q.expired) → ¬ limited (fun q => q.warned) → c.state = .speaking) ∧
       (r.mic = .pending → c.state = .speaking) ∧
       (idle → first → c.state = .next) ∧ (idle → entered → ¬ first → c.state = .request) ∧
       (idle → ¬ entered → c.state = .dark)) ∧
     (g.state.running = true → p.name = ((r.part.bind fun q => q.name).getD label)) ∧
     (g.state = .grace → p.status = txt "PRESS KEY TO BEGIN") ∧
     (open_ → r.isChair = false →
       (r.mic = .suspended → p.status = txt "ON HOLD") ∧
       (r.mic = .active → (∀ q, r.turn = some q → q.budget = 0) → p.status = txt "SPEAKING") ∧
       (∀ q, r.mic = .active → r.turn = some q → q.budget ≠ 0 →
         p.status = (if q.expired = true then txt "OVERTIME " else if g.clockHold = true then txt "TIME HELD "
           else txt "TIME LEFT ") ++ clock q.remaining.natAbs) ∧
       (r.mic = .pending → p.status = txt "SPEAKING") ∧
       (idle → first → p.status = txt "YOU ARE NEXT") ∧
       (idle → entered → ¬ first →
         p.status = txt "WAITING " ++ dec ((g.queue.takeWhile fun e => e.seat ≠ i).length + 1)) ∧
       (idle → ¬ entered → g.state = .overrun → p.status = txt "REQUESTS CLOSED") ∧
       (idle → ¬ entered → g.state ≠ .overrun →
         (g.settings.cap ≠ 0 → g.settings.cap * 60 ≤ r.cumul → p.status = txt "SPEAKING LIMIT REACHED") ∧
         (g.settings.cap = 0 ∨ r.cumul < g.settings.cap * 60 → quiet))) ∧
     (open_ → r.isChair = true →
       (i ∈ g.holders → p.status = txt "PRIORITY ON") ∧
       (i ∉ g.holders → r.mic = .active ∨ r.mic = .pending → p.status = txt "SPEAKING") ∧
       (i ∉ g.holders → ¬ (r.mic = .active ∨ r.mic = .pending) →
         (g.state = .overrun → p.status = txt "MEETING OVERRUN") ∧
         (g.state ≠ .overrun → g.queue ≠ [] → p.status = txt "QUEUE " ++ dec g.queue.length) ∧
         (g.queue = [] → quiet))) ∧
     (g.state = .free →
       let mine (b : Booking) : Prop := b.state = .pending ∧
         (b.span = .joined ∨ b.span = if i.val % 24 < s.k then .a else .b)
       ((∀ b, b ∈ s.bookings → ¬ mine b) → p = ⟨[], txt "AVAILABLE"⟩) ∧
       ((s.bookings.Pairwise fun b f => bookingBefore f b = false) → ∀ b, b ∈ s.bookings → mine b →
         (∀ f, f ∈ s.bookings → mine f → f ≠ b → bookingBefore b f = true) → ∀ a e, b.start = some a → b.stop = some e →
         p = ⟨((b.roster.find? fun f => f.seat = i).map fun f => f.name).getD b.title,
              txt "NEXT " ++ day a ++ txt "-" ++ day e⟩))) ∧
  (∀ (s : State) (n : ScreenNo),
     let x := (s.screen n).eff
     let g := s.sect x
     let l := g.settings.layouts[n]
     let two (n : Nat) : Text := [BitVec.ofNat 8 (48 + n / 10 % 10), BitVec.ofNat 8 (48 + n % 10)]
     let day (m : Nat) : Text := two (m % 1440 / 60) ++ txt ":" ++ two (m % 60)
     let nameOf (i : Seat) : Text := ((s.seat i).part.bind fun q => q.name).getD
       (if i.val < 24 then txt "N" ++ dec i.val else txt "S" ++ dec (i.val - 24))
     let share (i : Seat) : Option Nat :=
       match (s.seat i).part.bind fun q => q.share with
       | some m => some m
       | none => (s.seat i).map.share
     let speaks (i : Seat) : Prop := s.sectionOf i = x ∧ (s.seat i).mic = .active
     let before (i : Seat) : Nat := ((s.seatsWhere x fun r => r.mic = .active).filter fun j => olderStamp s j i).length
     let speakers (v : Shown) : Prop := ∃ lines, v = .caption .speakers
         (if (∀ i, ¬ speaks i) then txt "NO SPEAKERS" else txt "SPEAKERS") lines ∧
       lines.length = min 8 (s.seatsWhere x fun r => r.mic = .active).length ∧
       ∀ i, speaks i → before i < 8 → lines[before i]? = some ((nameOf i).take 32)
     let queue (v : Shown) : Prop := ∃ lines, v = .caption .queue (txt "QUEUE " ++ dec g.queue.length) lines ∧
       lines.length = min 8 g.queue.length ∧
       (∀ k : Fin 8, ∀ e, g.queue[k.val]? = some e → k.val < 7 ∨ g.queue.length = 8 →
         lines[k.val]? = some ((dec (k.val + 1) ++ txt " " ++ nameOf e.seat).take 32)) ∧
       (8 < g.queue.length → lines[7]? = some (txt "+" ++ dec (g.queue.length - 7) ++ txt " MORE"))
     let coming : List Text := (s.bookings.filter fun b => b.state = .pending ∧
         (s.mode = .joined ∨ b.span = .joined ∨ b.span = halfSpan x)).map fun b =>
       (day (b.start.getD 0) ++ txt "-" ++ day (b.stop.getD 0) ++ txt " " ++ b.title).take 32
     let agenda (v : Shown) : Prop :=
       (s.runningBooking x = none → v = .caption .agenda (txt "AVAILABLE") (coming.take 8)) ∧
       ∀ b, s.runningBooking x = some b →
         (g.state = .grace → v = .caption .agenda b.title (txt "AWAITING CHECK-IN" :: coming.take 7)) ∧
         (g.state = .session → v = .caption .agenda b.title ((match b.stop with
           | some e => txt "NOW UNTIL " ++ day e
           | none => txt "NOW") :: coming.take 7)) ∧
         (∀ e, g.state = .ending → b.stop = some e →
           v = .caption .agenda b.title ((txt "ENDS " ++ day e) :: coming.take 7)) ∧
         (g.state = .overrun → v = .caption .agenda b.title (txt "OVERRUN" :: coming.take 7))
     (s.resolved n).length = l.length ∧
     ∀ (j : Nat) (q : Tile) (v : ResolvedTile), l[j]? = some q → (s.resolved n)[j]? = some v →
       let source (m : Fin 8) : Shown :=
         if s.present[m] then .picture m q.cropC q.cropR
         else .noSignal m (txt "NO SIGNAL") (txt "INPUT " ++ dec m.val)
       v.c0 = q.c0 ∧ v.c1 = q.c1 ∧ v.r0 = q.r0 ∧ v.r1 = q.r1 ∧
       (∀ m, q.content = .input m → v.shown = source m) ∧
       (q.content = .presenter →
         (g.presenter = none → speakers v.shown) ∧
         ∀ (i : Seat) (o : Origin) (m : Fin 8), g.presenter = some (i, o) → share i = some m.val →
           (∀ h, h < i → share h ≠ some m.val) → v.shown = source m) ∧
       (q.content = .speakers → speakers v.shown) ∧ (q.content = .queue → queue v.shown) ∧
       (q.content = .agenda → agenda v.shown) ∧ (q.content = .blank → v.shown = .black))

/-- The state right after reset, which is the model's choice of stored values (assumption 3), meets the
invariants that every step keeps: the ranges, counters and settings, the mic relations, the split position,
the queues, what is shown, the display link, the presenters, the idle load, the floor, the calendar, and all
of the table at once. -/
def Obligations.ResetMeetsTheInvariants : Prop :=
  WithinRanges State.reset ∧ MicsFit State.reset ∧ SplitFits State.reset ∧ QueuesFit State.reset ∧
    ShownCurrent State.reset ∧ LoadIdle State.reset ∧ FloorFits State.reset ∧ CalendarFits State.reset ∧
    TableFits State.reset ∧ CountersFit State.reset ∧ SettingsFit State.reset ∧ LinkFits State.reset ∧
    PresentersFit State.reset ∧ RunningBegun State.reset

/-- Only a hardware reset, SETTIME and the ticks of the clock change table time; only a hardware reset and
PROFILE change the working profiles; only a hardware reset and the completion of a write change the stored
items; only TRIM, SEATMAP and a hardware reset change the working seat map (R106, R152, R186, R196). A
seat's cumulative speaking seconds never fall but to 0, by any command (R97, R98). -/
def Obligations.OnlyTheirOwnersWrite : Prop :=
  (∀ (c : Instr) (s t : State), exec c s = .next t → c ≠ .hardwareReset →
     ((∀ p l, c ≠ .setTime p l) → c ≠ .secondTick → c ≠ .minuteEvent → c ≠ .pollMissLimit →
       t.minute = s.minute ∧ t.second = s.second) ∧
     ((∀ p l, c ≠ .profile p l) → t.profiles = s.profiles) ∧
     (c ≠ .storeWriteComplete → t.stored = s.stored) ∧
     ((∀ p l, c ≠ .trim p l) → (∀ p l, c ≠ .seatMap p l) → ∀ i, (t.seat i).map = (s.seat i).map)) ∧
  (∀ (c : Instr) (s t : State) (i : Seat), (s.seat i).cumul ≤ 65535 → exec c s = .next t →
     (s.seat i).cumul ≤ (t.seat i).cumul ∨ (t.seat i).cumul = 0)
end

