-- ==== Sys2Proof/Laws/State.lean ====
section
/-! SUPPORT. What each update of the state leaves of each field, and what the accessors read after it. -/

set_option autoImplicit false

namespace Sys2Proof.Machine

variable (s : State)

/-! ### setSeat -/

@[simp] theorem setSeat_pending (i : Seat) (r : SeatRec) : (s.setSeat i r).pending = s.pending := rfl
@[simp] theorem setSeat_starting (i : Seat) (r : SeatRec) : (s.setSeat i r).starting = s.starting := rfl
@[simp] theorem setSeat_north (i : Seat) (r : SeatRec) : (s.setSeat i r).north = s.north := rfl
@[simp] theorem setSeat_south (i : Seat) (r : SeatRec) : (s.setSeat i r).south = s.south := rfl
@[simp] theorem setSeat_mode (i : Seat) (r : SeatRec) : (s.setSeat i r).mode = s.mode := rfl
@[simp] theorem setSeat_k (i : Seat) (r : SeatRec) : (s.setSeat i r).k = s.k := rfl
@[simp] theorem setSeat_defMode (i : Seat) (r : SeatRec) : (s.setSeat i r).defMode = s.defMode := rfl
@[simp] theorem setSeat_lead (i : Seat) (r : SeatRec) : (s.setSeat i r).lead = s.lead := rfl
@[simp] theorem setSeat_secA (i : Seat) (r : SeatRec) : (s.setSeat i r).secA = s.secA := rfl
@[simp] theorem setSeat_secB (i : Seat) (r : SeatRec) : (s.setSeat i r).secB = s.secB := rfl
@[simp] theorem setSeat_minute (i : Seat) (r : SeatRec) : (s.setSeat i r).minute = s.minute := rfl
@[simp] theorem setSeat_second (i : Seat) (r : SeatRec) : (s.setSeat i r).second = s.second := rfl
@[simp] theorem setSeat_bookings (i : Seat) (r : SeatRec) : (s.setSeat i r).bookings = s.bookings := rfl
@[simp] theorem setSeat_lastId (i : Seat) (r : SeatRec) : (s.setSeat i r).lastId = s.lastId := rfl
@[simp] theorem setSeat_freezeF (i : Seat) (r : SeatRec) : (s.setSeat i r).freezeF = s.freezeF := rfl
@[simp] theorem setSeat_guardG (i : Seat) (r : SeatRec) : (s.setSeat i r).guardG = s.guardG := rfl
@[simp] theorem setSeat_place (i : Seat) (r : SeatRec) : (s.setSeat i r).place = s.place := rfl
@[simp] theorem setSeat_steps (i : Seat) (r : SeatRec) : (s.setSeat i r).steps = s.steps := rfl
@[simp] theorem setSeat_out1 (i : Seat) (r : SeatRec) : (s.setSeat i r).out1 = s.out1 := rfl
@[simp] theorem setSeat_out2 (i : Seat) (r : SeatRec) : (s.setSeat i r).out2 = s.out2 := rfl
@[simp] theorem setSeat_present (i : Seat) (r : SeatRec) : (s.setSeat i r).present = s.present := rfl
@[simp] theorem setSeat_pollMiss (i : Seat) (r : SeatRec) : (s.setSeat i r).pollMiss = s.pollMiss := rfl
@[simp] theorem setSeat_polled (i : Seat) (r : SeatRec) : (s.setSeat i r).polled = s.polled := rfl
@[simp] theorem setSeat_screens (i : Seat) (r : SeatRec) : (s.setSeat i r).screens = s.screens := rfl
@[simp] theorem setSeat_profiles (i : Seat) (r : SeatRec) : (s.setSeat i r).profiles = s.profiles := rfl
@[simp] theorem setSeat_cpa (i : Seat) (r : SeatRec) : (s.setSeat i r).cpa = s.cpa := rfl
@[simp] theorem setSeat_cpb (i : Seat) (r : SeatRec) : (s.setSeat i r).cpb = s.cpb := rfl
@[simp] theorem setSeat_scp (i : Seat) (r : SeatRec) : (s.setSeat i r).scp = s.scp := rfl
@[simp] theorem setSeat_mdp (i : Seat) (r : SeatRec) : (s.setSeat i r).mdp = s.mdp := rfl
@[simp] theorem setSeat_stored (i : Seat) (r : SeatRec) : (s.setSeat i r).stored = s.stored := rfl
@[simp] theorem setSeat_write (i : Seat) (r : SeatRec) : (s.setSeat i r).write = s.write := rfl
@[simp] theorem setSeat_tablePending (i : Seat) (r : SeatRec) : (s.setSeat i r).tablePending = s.tablePending := rfl

/-! ### modSeat -/

@[simp] theorem modSeat_pending (i : Seat) (f : SeatRec → SeatRec) : (s.modSeat i f).pending = s.pending := rfl
@[simp] theorem modSeat_starting (i : Seat) (f : SeatRec → SeatRec) : (s.modSeat i f).starting = s.starting := rfl
@[simp] theorem modSeat_north (i : Seat) (f : SeatRec → SeatRec) : (s.modSeat i f).north = s.north := rfl
@[simp] theorem modSeat_south (i : Seat) (f : SeatRec → SeatRec) : (s.modSeat i f).south = s.south := rfl
@[simp] theorem modSeat_mode (i : Seat) (f : SeatRec → SeatRec) : (s.modSeat i f).mode = s.mode := rfl
@[simp] theorem modSeat_k (i : Seat) (f : SeatRec → SeatRec) : (s.modSeat i f).k = s.k := rfl
@[simp] theorem modSeat_defMode (i : Seat) (f : SeatRec → SeatRec) : (s.modSeat i f).defMode = s.defMode := rfl
@[simp] theorem modSeat_lead (i : Seat) (f : SeatRec → SeatRec) : (s.modSeat i f).lead = s.lead := rfl
@[simp] theorem modSeat_secA (i : Seat) (f : SeatRec → SeatRec) : (s.modSeat i f).secA = s.secA := rfl
@[simp] theorem modSeat_secB (i : Seat) (f : SeatRec → SeatRec) : (s.modSeat i f).secB = s.secB := rfl
@[simp] theorem modSeat_minute (i : Seat) (f : SeatRec → SeatRec) : (s.modSeat i f).minute = s.minute := rfl
@[simp] theorem modSeat_second (i : Seat) (f : SeatRec → SeatRec) : (s.modSeat i f).second = s.second := rfl
@[simp] theorem modSeat_bookings (i : Seat) (f : SeatRec → SeatRec) : (s.modSeat i f).bookings = s.bookings := rfl
@[simp] theorem modSeat_lastId (i : Seat) (f : SeatRec → SeatRec) : (s.modSeat i f).lastId = s.lastId := rfl
@[simp] theorem modSeat_freezeF (i : Seat) (f : SeatRec → SeatRec) : (s.modSeat i f).freezeF = s.freezeF := rfl
@[simp] theorem modSeat_guardG (i : Seat) (f : SeatRec → SeatRec) : (s.modSeat i f).guardG = s.guardG := rfl
@[simp] theorem modSeat_place (i : Seat) (f : SeatRec → SeatRec) : (s.modSeat i f).place = s.place := rfl
@[simp] theorem modSeat_steps (i : Seat) (f : SeatRec → SeatRec) : (s.modSeat i f).steps = s.steps := rfl
@[simp] theorem modSeat_out1 (i : Seat) (f : SeatRec → SeatRec) : (s.modSeat i f).out1 = s.out1 := rfl
@[simp] theorem modSeat_out2 (i : Seat) (f : SeatRec → SeatRec) : (s.modSeat i f).out2 = s.out2 := rfl
@[simp] theorem modSeat_present (i : Seat) (f : SeatRec → SeatRec) : (s.modSeat i f).present = s.present := rfl
@[simp] theorem modSeat_pollMiss (i : Seat) (f : SeatRec → SeatRec) : (s.modSeat i f).pollMiss = s.pollMiss := rfl
@[simp] theorem modSeat_polled (i : Seat) (f : SeatRec → SeatRec) : (s.modSeat i f).polled = s.polled := rfl
@[simp] theorem modSeat_screens (i : Seat) (f : SeatRec → SeatRec) : (s.modSeat i f).screens = s.screens := rfl
@[simp] theorem modSeat_profiles (i : Seat) (f : SeatRec → SeatRec) : (s.modSeat i f).profiles = s.profiles := rfl
@[simp] theorem modSeat_cpa (i : Seat) (f : SeatRec → SeatRec) : (s.modSeat i f).cpa = s.cpa := rfl
@[simp] theorem modSeat_cpb (i : Seat) (f : SeatRec → SeatRec) : (s.modSeat i f).cpb = s.cpb := rfl
@[simp] theorem modSeat_scp (i : Seat) (f : SeatRec → SeatRec) : (s.modSeat i f).scp = s.scp := rfl
@[simp] theorem modSeat_mdp (i : Seat) (f : SeatRec → SeatRec) : (s.modSeat i f).mdp = s.mdp := rfl
@[simp] theorem modSeat_stored (i : Seat) (f : SeatRec → SeatRec) : (s.modSeat i f).stored = s.stored := rfl
@[simp] theorem modSeat_write (i : Seat) (f : SeatRec → SeatRec) : (s.modSeat i f).write = s.write := rfl
@[simp] theorem modSeat_tablePending (i : Seat) (f : SeatRec → SeatRec) : (s.modSeat i f).tablePending = s.tablePending := rfl

/-! ### mapSeats -/

@[simp] theorem mapSeats_pending (f : Seat → SeatRec → SeatRec) : (s.mapSeats f).pending = s.pending := by simp only [State.mapSeats]
@[simp] theorem mapSeats_starting (f : Seat → SeatRec → SeatRec) : (s.mapSeats f).starting = s.starting := by simp only [State.mapSeats]
@[simp] theorem mapSeats_north (f : Seat → SeatRec → SeatRec) : (s.mapSeats f).north = s.north := by simp only [State.mapSeats]
@[simp] theorem mapSeats_south (f : Seat → SeatRec → SeatRec) : (s.mapSeats f).south = s.south := by simp only [State.mapSeats]
@[simp] theorem mapSeats_mode (f : Seat → SeatRec → SeatRec) : (s.mapSeats f).mode = s.mode := by simp only [State.mapSeats]
@[simp] theorem mapSeats_k (f : Seat → SeatRec → SeatRec) : (s.mapSeats f).k = s.k := by simp only [State.mapSeats]
@[simp] theorem mapSeats_defMode (f : Seat → SeatRec → SeatRec) : (s.mapSeats f).defMode = s.defMode := by simp only [State.mapSeats]
@[simp] theorem mapSeats_lead (f : Seat → SeatRec → SeatRec) : (s.mapSeats f).lead = s.lead := by simp only [State.mapSeats]
@[simp] theorem mapSeats_secA (f : Seat → SeatRec → SeatRec) : (s.mapSeats f).secA = s.secA := by simp only [State.mapSeats]
@[simp] theorem mapSeats_secB (f : Seat → SeatRec → SeatRec) : (s.mapSeats f).secB = s.secB := by simp only [State.mapSeats]
@[simp] theorem mapSeats_minute (f : Seat → SeatRec → SeatRec) : (s.mapSeats f).minute = s.minute := by simp only [State.mapSeats]
@[simp] theorem mapSeats_second (f : Seat → SeatRec → SeatRec) : (s.mapSeats f).second = s.second := by simp only [State.mapSeats]
@[simp] theorem mapSeats_bookings (f : Seat → SeatRec → SeatRec) : (s.mapSeats f).bookings = s.bookings := by simp only [State.mapSeats]
@[simp] theorem mapSeats_lastId (f : Seat → SeatRec → SeatRec) : (s.mapSeats f).lastId = s.lastId := by simp only [State.mapSeats]
@[simp] theorem mapSeats_freezeF (f : Seat → SeatRec → SeatRec) : (s.mapSeats f).freezeF = s.freezeF := by simp only [State.mapSeats]
@[simp] theorem mapSeats_guardG (f : Seat → SeatRec → SeatRec) : (s.mapSeats f).guardG = s.guardG := by simp only [State.mapSeats]
@[simp] theorem mapSeats_place (f : Seat → SeatRec → SeatRec) : (s.mapSeats f).place = s.place := by simp only [State.mapSeats]
@[simp] theorem mapSeats_steps (f : Seat → SeatRec → SeatRec) : (s.mapSeats f).steps = s.steps := by simp only [State.mapSeats]
@[simp] theorem mapSeats_out1 (f : Seat → SeatRec → SeatRec) : (s.mapSeats f).out1 = s.out1 := by simp only [State.mapSeats]
@[simp] theorem mapSeats_out2 (f : Seat → SeatRec → SeatRec) : (s.mapSeats f).out2 = s.out2 := by simp only [State.mapSeats]
@[simp] theorem mapSeats_present (f : Seat → SeatRec → SeatRec) : (s.mapSeats f).present = s.present := by simp only [State.mapSeats]
@[simp] theorem mapSeats_pollMiss (f : Seat → SeatRec → SeatRec) : (s.mapSeats f).pollMiss = s.pollMiss := by simp only [State.mapSeats]
@[simp] theorem mapSeats_polled (f : Seat → SeatRec → SeatRec) : (s.mapSeats f).polled = s.polled := by simp only [State.mapSeats]
@[simp] theorem mapSeats_screens (f : Seat → SeatRec → SeatRec) : (s.mapSeats f).screens = s.screens := by simp only [State.mapSeats]
@[simp] theorem mapSeats_profiles (f : Seat → SeatRec → SeatRec) : (s.mapSeats f).profiles = s.profiles := by simp only [State.mapSeats]
@[simp] theorem mapSeats_cpa (f : Seat → SeatRec → SeatRec) : (s.mapSeats f).cpa = s.cpa := by simp only [State.mapSeats]
@[simp] theorem mapSeats_cpb (f : Seat → SeatRec → SeatRec) : (s.mapSeats f).cpb = s.cpb := by simp only [State.mapSeats]
@[simp] theorem mapSeats_scp (f : Seat → SeatRec → SeatRec) : (s.mapSeats f).scp = s.scp := by simp only [State.mapSeats]
@[simp] theorem mapSeats_mdp (f : Seat → SeatRec → SeatRec) : (s.mapSeats f).mdp = s.mdp := by simp only [State.mapSeats]
@[simp] theorem mapSeats_stored (f : Seat → SeatRec → SeatRec) : (s.mapSeats f).stored = s.stored := by simp only [State.mapSeats]
@[simp] theorem mapSeats_write (f : Seat → SeatRec → SeatRec) : (s.mapSeats f).write = s.write := by simp only [State.mapSeats]
@[simp] theorem mapSeats_tablePending (f : Seat → SeatRec → SeatRec) : (s.mapSeats f).tablePending = s.tablePending := by simp only [State.mapSeats]

/-! ### setSect -/

@[simp] theorem setSect_pending (x : Sect) (r : SectRec) : (s.setSect x r).pending = s.pending := by cases x <;> rfl
@[simp] theorem setSect_starting (x : Sect) (r : SectRec) : (s.setSect x r).starting = s.starting := by cases x <;> rfl
@[simp] theorem setSect_seats (x : Sect) (r : SectRec) : (s.setSect x r).seats = s.seats := by cases x <;> rfl
@[simp] theorem setSect_north (x : Sect) (r : SectRec) : (s.setSect x r).north = s.north := by cases x <;> rfl
@[simp] theorem setSect_south (x : Sect) (r : SectRec) : (s.setSect x r).south = s.south := by cases x <;> rfl
@[simp] theorem setSect_mode (x : Sect) (r : SectRec) : (s.setSect x r).mode = s.mode := by cases x <;> rfl
@[simp] theorem setSect_k (x : Sect) (r : SectRec) : (s.setSect x r).k = s.k := by cases x <;> rfl
@[simp] theorem setSect_defMode (x : Sect) (r : SectRec) : (s.setSect x r).defMode = s.defMode := by cases x <;> rfl
@[simp] theorem setSect_lead (x : Sect) (r : SectRec) : (s.setSect x r).lead = s.lead := by cases x <;> rfl
@[simp] theorem setSect_minute (x : Sect) (r : SectRec) : (s.setSect x r).minute = s.minute := by cases x <;> rfl
@[simp] theorem setSect_second (x : Sect) (r : SectRec) : (s.setSect x r).second = s.second := by cases x <;> rfl
@[simp] theorem setSect_bookings (x : Sect) (r : SectRec) : (s.setSect x r).bookings = s.bookings := by cases x <;> rfl
@[simp] theorem setSect_lastId (x : Sect) (r : SectRec) : (s.setSect x r).lastId = s.lastId := by cases x <;> rfl
@[simp] theorem setSect_freezeF (x : Sect) (r : SectRec) : (s.setSect x r).freezeF = s.freezeF := by cases x <;> rfl
@[simp] theorem setSect_guardG (x : Sect) (r : SectRec) : (s.setSect x r).guardG = s.guardG := by cases x <;> rfl
@[simp] theorem setSect_place (x : Sect) (r : SectRec) : (s.setSect x r).place = s.place := by cases x <;> rfl
@[simp] theorem setSect_steps (x : Sect) (r : SectRec) : (s.setSect x r).steps = s.steps := by cases x <;> rfl
@[simp] theorem setSect_out1 (x : Sect) (r : SectRec) : (s.setSect x r).out1 = s.out1 := by cases x <;> rfl
@[simp] theorem setSect_out2 (x : Sect) (r : SectRec) : (s.setSect x r).out2 = s.out2 := by cases x <;> rfl
@[simp] theorem setSect_present (x : Sect) (r : SectRec) : (s.setSect x r).present = s.present := by cases x <;> rfl
@[simp] theorem setSect_pollMiss (x : Sect) (r : SectRec) : (s.setSect x r).pollMiss = s.pollMiss := by cases x <;> rfl
@[simp] theorem setSect_polled (x : Sect) (r : SectRec) : (s.setSect x r).polled = s.polled := by cases x <;> rfl
@[simp] theorem setSect_screens (x : Sect) (r : SectRec) : (s.setSect x r).screens = s.screens := by cases x <;> rfl
@[simp] theorem setSect_profiles (x : Sect) (r : SectRec) : (s.setSect x r).profiles = s.profiles := by cases x <;> rfl
@[simp] theorem setSect_cpa (x : Sect) (r : SectRec) : (s.setSect x r).cpa = s.cpa := by cases x <;> rfl
@[simp] theorem setSect_cpb (x : Sect) (r : SectRec) : (s.setSect x r).cpb = s.cpb := by cases x <;> rfl
@[simp] theorem setSect_scp (x : Sect) (r : SectRec) : (s.setSect x r).scp = s.scp := by cases x <;> rfl
@[simp] theorem setSect_mdp (x : Sect) (r : SectRec) : (s.setSect x r).mdp = s.mdp := by cases x <;> rfl
@[simp] theorem setSect_stored (x : Sect) (r : SectRec) : (s.setSect x r).stored = s.stored := by cases x <;> rfl
@[simp] theorem setSect_write (x : Sect) (r : SectRec) : (s.setSect x r).write = s.write := by cases x <;> rfl
@[simp] theorem setSect_tablePending (x : Sect) (r : SectRec) : (s.setSect x r).tablePending = s.tablePending := by cases x <;> rfl

/-! ### modSect -/

@[simp] theorem modSect_pending (x : Sect) (f : SectRec → SectRec) : (s.modSect x f).pending = s.pending := by cases x <;> rfl
@[simp] theorem modSect_starting (x : Sect) (f : SectRec → SectRec) : (s.modSect x f).starting = s.starting := by cases x <;> rfl
@[simp] theorem modSect_seats (x : Sect) (f : SectRec → SectRec) : (s.modSect x f).seats = s.seats := by cases x <;> rfl
@[simp] theorem modSect_north (x : Sect) (f : SectRec → SectRec) : (s.modSect x f).north = s.north := by cases x <;> rfl
@[simp] theorem modSect_south (x : Sect) (f : SectRec → SectRec) : (s.modSect x f).south = s.south := by cases x <;> rfl
@[simp] theorem modSect_mode (x : Sect) (f : SectRec → SectRec) : (s.modSect x f).mode = s.mode := by cases x <;> rfl
@[simp] theorem modSect_k (x : Sect) (f : SectRec → SectRec) : (s.modSect x f).k = s.k := by cases x <;> rfl
@[simp] theorem modSect_defMode (x : Sect) (f : SectRec → SectRec) : (s.modSect x f).defMode = s.defMode := by cases x <;> rfl
@[simp] theorem modSect_lead (x : Sect) (f : SectRec → SectRec) : (s.modSect x f).lead = s.lead := by cases x <;> rfl
@[simp] theorem modSect_minute (x : Sect) (f : SectRec → SectRec) : (s.modSect x f).minute = s.minute := by cases x <;> rfl
@[simp] theorem modSect_second (x : Sect) (f : SectRec → SectRec) : (s.modSect x f).second = s.second := by cases x <;> rfl
@[simp] theorem modSect_bookings (x : Sect) (f : SectRec → SectRec) : (s.modSect x f).bookings = s.bookings := by cases x <;> rfl
@[simp] theorem modSect_lastId (x : Sect) (f : SectRec → SectRec) : (s.modSect x f).lastId = s.lastId := by cases x <;> rfl
@[simp] theorem modSect_freezeF (x : Sect) (f : SectRec → SectRec) : (s.modSect x f).freezeF = s.freezeF := by cases x <;> rfl
@[simp] theorem modSect_guardG (x : Sect) (f : SectRec → SectRec) : (s.modSect x f).guardG = s.guardG := by cases x <;> rfl
@[simp] theorem modSect_place (x : Sect) (f : SectRec → SectRec) : (s.modSect x f).place = s.place := by cases x <;> rfl
@[simp] theorem modSect_steps (x : Sect) (f : SectRec → SectRec) : (s.modSect x f).steps = s.steps := by cases x <;> rfl
@[simp] theorem modSect_out1 (x : Sect) (f : SectRec → SectRec) : (s.modSect x f).out1 = s.out1 := by cases x <;> rfl
@[simp] theorem modSect_out2 (x : Sect) (f : SectRec → SectRec) : (s.modSect x f).out2 = s.out2 := by cases x <;> rfl
@[simp] theorem modSect_present (x : Sect) (f : SectRec → SectRec) : (s.modSect x f).present = s.present := by cases x <;> rfl
@[simp] theorem modSect_pollMiss (x : Sect) (f : SectRec → SectRec) : (s.modSect x f).pollMiss = s.pollMiss := by cases x <;> rfl
@[simp] theorem modSect_polled (x : Sect) (f : SectRec → SectRec) : (s.modSect x f).polled = s.polled := by cases x <;> rfl
@[simp] theorem modSect_screens (x : Sect) (f : SectRec → SectRec) : (s.modSect x f).screens = s.screens := by cases x <;> rfl
@[simp] theorem modSect_profiles (x : Sect) (f : SectRec → SectRec) : (s.modSect x f).profiles = s.profiles := by cases x <;> rfl
@[simp] theorem modSect_cpa (x : Sect) (f : SectRec → SectRec) : (s.modSect x f).cpa = s.cpa := by cases x <;> rfl
@[simp] theorem modSect_cpb (x : Sect) (f : SectRec → SectRec) : (s.modSect x f).cpb = s.cpb := by cases x <;> rfl
@[simp] theorem modSect_scp (x : Sect) (f : SectRec → SectRec) : (s.modSect x f).scp = s.scp := by cases x <;> rfl
@[simp] theorem modSect_mdp (x : Sect) (f : SectRec → SectRec) : (s.modSect x f).mdp = s.mdp := by cases x <;> rfl
@[simp] theorem modSect_stored (x : Sect) (f : SectRec → SectRec) : (s.modSect x f).stored = s.stored := by cases x <;> rfl
@[simp] theorem modSect_write (x : Sect) (f : SectRec → SectRec) : (s.modSect x f).write = s.write := by cases x <;> rfl
@[simp] theorem modSect_tablePending (x : Sect) (f : SectRec → SectRec) : (s.modSect x f).tablePending = s.tablePending := by cases x <;> rfl

/-! ### setRing -/

@[simp] theorem setRing_pending (d : Side) (r : SeatRing) : (s.setRing d r).pending = s.pending := by cases d <;> rfl
@[simp] theorem setRing_starting (d : Side) (r : SeatRing) : (s.setRing d r).starting = s.starting := by cases d <;> rfl
@[simp] theorem setRing_seats (d : Side) (r : SeatRing) : (s.setRing d r).seats = s.seats := by cases d <;> rfl
@[simp] theorem setRing_mode (d : Side) (r : SeatRing) : (s.setRing d r).mode = s.mode := by cases d <;> rfl
@[simp] theorem setRing_k (d : Side) (r : SeatRing) : (s.setRing d r).k = s.k := by cases d <;> rfl
@[simp] theorem setRing_defMode (d : Side) (r : SeatRing) : (s.setRing d r).defMode = s.defMode := by cases d <;> rfl
@[simp] theorem setRing_lead (d : Side) (r : SeatRing) : (s.setRing d r).lead = s.lead := by cases d <;> rfl
@[simp] theorem setRing_secA (d : Side) (r : SeatRing) : (s.setRing d r).secA = s.secA := by cases d <;> rfl
@[simp] theorem setRing_secB (d : Side) (r : SeatRing) : (s.setRing d r).secB = s.secB := by cases d <;> rfl
@[simp] theorem setRing_minute (d : Side) (r : SeatRing) : (s.setRing d r).minute = s.minute := by cases d <;> rfl
@[simp] theorem setRing_second (d : Side) (r : SeatRing) : (s.setRing d r).second = s.second := by cases d <;> rfl
@[simp] theorem setRing_bookings (d : Side) (r : SeatRing) : (s.setRing d r).bookings = s.bookings := by cases d <;> rfl
@[simp] theorem setRing_lastId (d : Side) (r : SeatRing) : (s.setRing d r).lastId = s.lastId := by cases d <;> rfl
@[simp] theorem setRing_freezeF (d : Side) (r : SeatRing) : (s.setRing d r).freezeF = s.freezeF := by cases d <;> rfl
@[simp] theorem setRing_guardG (d : Side) (r : SeatRing) : (s.setRing d r).guardG = s.guardG := by cases d <;> rfl
@[simp] theorem setRing_place (d : Side) (r : SeatRing) : (s.setRing d r).place = s.place := by cases d <;> rfl
@[simp] theorem setRing_steps (d : Side) (r : SeatRing) : (s.setRing d r).steps = s.steps := by cases d <;> rfl
@[simp] theorem setRing_out1 (d : Side) (r : SeatRing) : (s.setRing d r).out1 = s.out1 := by cases d <;> rfl
@[simp] theorem setRing_out2 (d : Side) (r : SeatRing) : (s.setRing d r).out2 = s.out2 := by cases d <;> rfl
@[simp] theorem setRing_present (d : Side) (r : SeatRing) : (s.setRing d r).present = s.present := by cases d <;> rfl
@[simp] theorem setRing_pollMiss (d : Side) (r : SeatRing) : (s.setRing d r).pollMiss = s.pollMiss := by cases d <;> rfl
@[simp] theorem setRing_polled (d : Side) (r : SeatRing) : (s.setRing d r).polled = s.polled := by cases d <;> rfl
@[simp] theorem setRing_screens (d : Side) (r : SeatRing) : (s.setRing d r).screens = s.screens := by cases d <;> rfl
@[simp] theorem setRing_profiles (d : Side) (r : SeatRing) : (s.setRing d r).profiles = s.profiles := by cases d <;> rfl
@[simp] theorem setRing_cpa (d : Side) (r : SeatRing) : (s.setRing d r).cpa = s.cpa := by cases d <;> rfl
@[simp] theorem setRing_cpb (d : Side) (r : SeatRing) : (s.setRing d r).cpb = s.cpb := by cases d <;> rfl
@[simp] theorem setRing_scp (d : Side) (r : SeatRing) : (s.setRing d r).scp = s.scp := by cases d <;> rfl
@[simp] theorem setRing_mdp (d : Side) (r : SeatRing) : (s.setRing d r).mdp = s.mdp := by cases d <;> rfl
@[simp] theorem setRing_stored (d : Side) (r : SeatRing) : (s.setRing d r).stored = s.stored := by cases d <;> rfl
@[simp] theorem setRing_write (d : Side) (r : SeatRing) : (s.setRing d r).write = s.write := by cases d <;> rfl
@[simp] theorem setRing_tablePending (d : Side) (r : SeatRing) : (s.setRing d r).tablePending = s.tablePending := by cases d <;> rfl

/-! ### modScreen -/

@[simp] theorem modScreen_pending (n : ScreenNo) (f : ScreenRec → ScreenRec) : (s.modScreen n f).pending = s.pending := rfl
@[simp] theorem modScreen_starting (n : ScreenNo) (f : ScreenRec → ScreenRec) : (s.modScreen n f).starting = s.starting := rfl
@[simp] theorem modScreen_seats (n : ScreenNo) (f : ScreenRec → ScreenRec) : (s.modScreen n f).seats = s.seats := rfl
@[simp] theorem modScreen_north (n : ScreenNo) (f : ScreenRec → ScreenRec) : (s.modScreen n f).north = s.north := rfl
@[simp] theorem modScreen_south (n : ScreenNo) (f : ScreenRec → ScreenRec) : (s.modScreen n f).south = s.south := rfl
@[simp] theorem modScreen_mode (n : ScreenNo) (f : ScreenRec → ScreenRec) : (s.modScreen n f).mode = s.mode := rfl
@[simp] theorem modScreen_k (n : ScreenNo) (f : ScreenRec → ScreenRec) : (s.modScreen n f).k = s.k := rfl
@[simp] theorem modScreen_defMode (n : ScreenNo) (f : ScreenRec → ScreenRec) : (s.modScreen n f).defMode = s.defMode := rfl
@[simp] theorem modScreen_lead (n : ScreenNo) (f : ScreenRec → ScreenRec) : (s.modScreen n f).lead = s.lead := rfl
@[simp] theorem modScreen_secA (n : ScreenNo) (f : ScreenRec → ScreenRec) : (s.modScreen n f).secA = s.secA := rfl
@[simp] theorem modScreen_secB (n : ScreenNo) (f : ScreenRec → ScreenRec) : (s.modScreen n f).secB = s.secB := rfl
@[simp] theorem modScreen_minute (n : ScreenNo) (f : ScreenRec → ScreenRec) : (s.modScreen n f).minute = s.minute := rfl
@[simp] theorem modScreen_second (n : ScreenNo) (f : ScreenRec → ScreenRec) : (s.modScreen n f).second = s.second := rfl
@[simp] theorem modScreen_bookings (n : ScreenNo) (f : ScreenRec → ScreenRec) : (s.modScreen n f).bookings = s.bookings := rfl
@[simp] theorem modScreen_lastId (n : ScreenNo) (f : ScreenRec → ScreenRec) : (s.modScreen n f).lastId = s.lastId := rfl
@[simp] theorem modScreen_freezeF (n : ScreenNo) (f : ScreenRec → ScreenRec) : (s.modScreen n f).freezeF = s.freezeF := rfl
@[simp] theorem modScreen_guardG (n : ScreenNo) (f : ScreenRec → ScreenRec) : (s.modScreen n f).guardG = s.guardG := rfl
@[simp] theorem modScreen_place (n : ScreenNo) (f : ScreenRec → ScreenRec) : (s.modScreen n f).place = s.place := rfl
@[simp] theorem modScreen_steps (n : ScreenNo) (f : ScreenRec → ScreenRec) : (s.modScreen n f).steps = s.steps := rfl
@[simp] theorem modScreen_out1 (n : ScreenNo) (f : ScreenRec → ScreenRec) : (s.modScreen n f).out1 = s.out1 := rfl
@[simp] theorem modScreen_out2 (n : ScreenNo) (f : ScreenRec → ScreenRec) : (s.modScreen n f).out2 = s.out2 := rfl
@[simp] theorem modScreen_present (n : ScreenNo) (f : ScreenRec → ScreenRec) : (s.modScreen n f).present = s.present := rfl
@[simp] theorem modScreen_pollMiss (n : ScreenNo) (f : ScreenRec → ScreenRec) : (s.modScreen n f).pollMiss = s.pollMiss := rfl
@[simp] theorem modScreen_polled (n : ScreenNo) (f : ScreenRec → ScreenRec) : (s.modScreen n f).polled = s.polled := rfl
@[simp] theorem modScreen_profiles (n : ScreenNo) (f : ScreenRec → ScreenRec) : (s.modScreen n f).profiles = s.profiles := rfl
@[simp] theorem modScreen_cpa (n : ScreenNo) (f : ScreenRec → ScreenRec) : (s.modScreen n f).cpa = s.cpa := rfl
@[simp] theorem modScreen_cpb (n : ScreenNo) (f : ScreenRec → ScreenRec) : (s.modScreen n f).cpb = s.cpb := rfl
@[simp] theorem modScreen_scp (n : ScreenNo) (f : ScreenRec → ScreenRec) : (s.modScreen n f).scp = s.scp := rfl
@[simp] theorem modScreen_mdp (n : ScreenNo) (f : ScreenRec → ScreenRec) : (s.modScreen n f).mdp = s.mdp := rfl
@[simp] theorem modScreen_stored (n : ScreenNo) (f : ScreenRec → ScreenRec) : (s.modScreen n f).stored = s.stored := rfl
@[simp] theorem modScreen_write (n : ScreenNo) (f : ScreenRec → ScreenRec) : (s.modScreen n f).write = s.write := rfl
@[simp] theorem modScreen_tablePending (n : ScreenNo) (f : ScreenRec → ScreenRec) : (s.modScreen n f).tablePending = s.tablePending := rfl

/-! ### setPort -/

@[simp] theorem setPort_pending (p : Port) (r : PortRec) : (s.setPort p r).pending = s.pending := by cases p <;> rfl
@[simp] theorem setPort_starting (p : Port) (r : PortRec) : (s.setPort p r).starting = s.starting := by cases p <;> rfl
@[simp] theorem setPort_seats (p : Port) (r : PortRec) : (s.setPort p r).seats = s.seats := by cases p <;> rfl
@[simp] theorem setPort_north (p : Port) (r : PortRec) : (s.setPort p r).north = s.north := by cases p <;> rfl
@[simp] theorem setPort_south (p : Port) (r : PortRec) : (s.setPort p r).south = s.south := by cases p <;> rfl
@[simp] theorem setPort_mode (p : Port) (r : PortRec) : (s.setPort p r).mode = s.mode := by cases p <;> rfl
@[simp] theorem setPort_k (p : Port) (r : PortRec) : (s.setPort p r).k = s.k := by cases p <;> rfl
@[simp] theorem setPort_defMode (p : Port) (r : PortRec) : (s.setPort p r).defMode = s.defMode := by cases p <;> rfl
@[simp] theorem setPort_lead (p : Port) (r : PortRec) : (s.setPort p r).lead = s.lead := by cases p <;> rfl
@[simp] theorem setPort_secA (p : Port) (r : PortRec) : (s.setPort p r).secA = s.secA := by cases p <;> rfl
@[simp] theorem setPort_secB (p : Port) (r : PortRec) : (s.setPort p r).secB = s.secB := by cases p <;> rfl
@[simp] theorem setPort_minute (p : Port) (r : PortRec) : (s.setPort p r).minute = s.minute := by cases p <;> rfl
@[simp] theorem setPort_second (p : Port) (r : PortRec) : (s.setPort p r).second = s.second := by cases p <;> rfl
@[simp] theorem setPort_bookings (p : Port) (r : PortRec) : (s.setPort p r).bookings = s.bookings := by cases p <;> rfl
@[simp] theorem setPort_lastId (p : Port) (r : PortRec) : (s.setPort p r).lastId = s.lastId := by cases p <;> rfl
@[simp] theorem setPort_freezeF (p : Port) (r : PortRec) : (s.setPort p r).freezeF = s.freezeF := by cases p <;> rfl
@[simp] theorem setPort_guardG (p : Port) (r : PortRec) : (s.setPort p r).guardG = s.guardG := by cases p <;> rfl
@[simp] theorem setPort_place (p : Port) (r : PortRec) : (s.setPort p r).place = s.place := by cases p <;> rfl
@[simp] theorem setPort_steps (p : Port) (r : PortRec) : (s.setPort p r).steps = s.steps := by cases p <;> rfl
@[simp] theorem setPort_out1 (p : Port) (r : PortRec) : (s.setPort p r).out1 = s.out1 := by cases p <;> rfl
@[simp] theorem setPort_out2 (p : Port) (r : PortRec) : (s.setPort p r).out2 = s.out2 := by cases p <;> rfl
@[simp] theorem setPort_present (p : Port) (r : PortRec) : (s.setPort p r).present = s.present := by cases p <;> rfl
@[simp] theorem setPort_pollMiss (p : Port) (r : PortRec) : (s.setPort p r).pollMiss = s.pollMiss := by cases p <;> rfl
@[simp] theorem setPort_polled (p : Port) (r : PortRec) : (s.setPort p r).polled = s.polled := by cases p <;> rfl
@[simp] theorem setPort_screens (p : Port) (r : PortRec) : (s.setPort p r).screens = s.screens := by cases p <;> rfl
@[simp] theorem setPort_profiles (p : Port) (r : PortRec) : (s.setPort p r).profiles = s.profiles := by cases p <;> rfl
@[simp] theorem setPort_stored (p : Port) (r : PortRec) : (s.setPort p r).stored = s.stored := by cases p <;> rfl
@[simp] theorem setPort_write (p : Port) (r : PortRec) : (s.setPort p r).write = s.write := by cases p <;> rfl
@[simp] theorem setPort_tablePending (p : Port) (r : PortRec) : (s.setPort p r).tablePending = s.tablePending := by cases p <;> rfl

/-! ### modPort -/

@[simp] theorem modPort_pending (p : Port) (f : PortRec → PortRec) : (s.modPort p f).pending = s.pending := by cases p <;> rfl
@[simp] theorem modPort_starting (p : Port) (f : PortRec → PortRec) : (s.modPort p f).starting = s.starting := by cases p <;> rfl
@[simp] theorem modPort_seats (p : Port) (f : PortRec → PortRec) : (s.modPort p f).seats = s.seats := by cases p <;> rfl
@[simp] theorem modPort_north (p : Port) (f : PortRec → PortRec) : (s.modPort p f).north = s.north := by cases p <;> rfl
@[simp] theorem modPort_south (p : Port) (f : PortRec → PortRec) : (s.modPort p f).south = s.south := by cases p <;> rfl
@[simp] theorem modPort_mode (p : Port) (f : PortRec → PortRec) : (s.modPort p f).mode = s.mode := by cases p <;> rfl
@[simp] theorem modPort_k (p : Port) (f : PortRec → PortRec) : (s.modPort p f).k = s.k := by cases p <;> rfl
@[simp] theorem modPort_defMode (p : Port) (f : PortRec → PortRec) : (s.modPort p f).defMode = s.defMode := by cases p <;> rfl
@[simp] theorem modPort_lead (p : Port) (f : PortRec → PortRec) : (s.modPort p f).lead = s.lead := by cases p <;> rfl
@[simp] theorem modPort_secA (p : Port) (f : PortRec → PortRec) : (s.modPort p f).secA = s.secA := by cases p <;> rfl
@[simp] theorem modPort_secB (p : Port) (f : PortRec → PortRec) : (s.modPort p f).secB = s.secB := by cases p <;> rfl
@[simp] theorem modPort_minute (p : Port) (f : PortRec → PortRec) : (s.modPort p f).minute = s.minute := by cases p <;> rfl
@[simp] theorem modPort_second (p : Port) (f : PortRec → PortRec) : (s.modPort p f).second = s.second := by cases p <;> rfl
@[simp] theorem modPort_bookings (p : Port) (f : PortRec → PortRec) : (s.modPort p f).bookings = s.bookings := by cases p <;> rfl
@[simp] theorem modPort_lastId (p : Port) (f : PortRec → PortRec) : (s.modPort p f).lastId = s.lastId := by cases p <;> rfl
@[simp] theorem modPort_freezeF (p : Port) (f : PortRec → PortRec) : (s.modPort p f).freezeF = s.freezeF := by cases p <;> rfl
@[simp] theorem modPort_guardG (p : Port) (f : PortRec → PortRec) : (s.modPort p f).guardG = s.guardG := by cases p <;> rfl
@[simp] theorem modPort_place (p : Port) (f : PortRec → PortRec) : (s.modPort p f).place = s.place := by cases p <;> rfl
@[simp] theorem modPort_steps (p : Port) (f : PortRec → PortRec) : (s.modPort p f).steps = s.steps := by cases p <;> rfl
@[simp] theorem modPort_out1 (p : Port) (f : PortRec → PortRec) : (s.modPort p f).out1 = s.out1 := by cases p <;> rfl
@[simp] theorem modPort_out2 (p : Port) (f : PortRec → PortRec) : (s.modPort p f).out2 = s.out2 := by cases p <;> rfl
@[simp] theorem modPort_present (p : Port) (f : PortRec → PortRec) : (s.modPort p f).present = s.present := by cases p <;> rfl
@[simp] theorem modPort_pollMiss (p : Port) (f : PortRec → PortRec) : (s.modPort p f).pollMiss = s.pollMiss := by cases p <;> rfl
@[simp] theorem modPort_polled (p : Port) (f : PortRec → PortRec) : (s.modPort p f).polled = s.polled := by cases p <;> rfl
@[simp] theorem modPort_screens (p : Port) (f : PortRec → PortRec) : (s.modPort p f).screens = s.screens := by cases p <;> rfl
@[simp] theorem modPort_profiles (p : Port) (f : PortRec → PortRec) : (s.modPort p f).profiles = s.profiles := by cases p <;> rfl
@[simp] theorem modPort_stored (p : Port) (f : PortRec → PortRec) : (s.modPort p f).stored = s.stored := by cases p <;> rfl
@[simp] theorem modPort_write (p : Port) (f : PortRec → PortRec) : (s.modPort p f).write = s.write := by cases p <;> rfl
@[simp] theorem modPort_tablePending (p : Port) (f : PortRec → PortRec) : (s.modPort p f).tablePending = s.tablePending := by cases p <;> rfl

/-! ### modBooking -/

@[simp] theorem modBooking_pending (id : Nat) (f : Booking → Booking) : (s.modBooking id f).pending = s.pending := rfl
@[simp] theorem modBooking_starting (id : Nat) (f : Booking → Booking) : (s.modBooking id f).starting = s.starting := rfl
@[simp] theorem modBooking_seats (id : Nat) (f : Booking → Booking) : (s.modBooking id f).seats = s.seats := rfl
@[simp] theorem modBooking_north (id : Nat) (f : Booking → Booking) : (s.modBooking id f).north = s.north := rfl
@[simp] theorem modBooking_south (id : Nat) (f : Booking → Booking) : (s.modBooking id f).south = s.south := rfl
@[simp] theorem modBooking_mode (id : Nat) (f : Booking → Booking) : (s.modBooking id f).mode = s.mode := rfl
@[simp] theorem modBooking_k (id : Nat) (f : Booking → Booking) : (s.modBooking id f).k = s.k := rfl
@[simp] theorem modBooking_defMode (id : Nat) (f : Booking → Booking) : (s.modBooking id f).defMode = s.defMode := rfl
@[simp] theorem modBooking_lead (id : Nat) (f : Booking → Booking) : (s.modBooking id f).lead = s.lead := rfl
@[simp] theorem modBooking_secA (id : Nat) (f : Booking → Booking) : (s.modBooking id f).secA = s.secA := rfl
@[simp] theorem modBooking_secB (id : Nat) (f : Booking → Booking) : (s.modBooking id f).secB = s.secB := rfl
@[simp] theorem modBooking_minute (id : Nat) (f : Booking → Booking) : (s.modBooking id f).minute = s.minute := rfl
@[simp] theorem modBooking_second (id : Nat) (f : Booking → Booking) : (s.modBooking id f).second = s.second := rfl
@[simp] theorem modBooking_lastId (id : Nat) (f : Booking → Booking) : (s.modBooking id f).lastId = s.lastId := rfl
@[simp] theorem modBooking_freezeF (id : Nat) (f : Booking → Booking) : (s.modBooking id f).freezeF = s.freezeF := rfl
@[simp] theorem modBooking_guardG (id : Nat) (f : Booking → Booking) : (s.modBooking id f).guardG = s.guardG := rfl
@[simp] theorem modBooking_place (id : Nat) (f : Booking → Booking) : (s.modBooking id f).place = s.place := rfl
@[simp] theorem modBooking_steps (id : Nat) (f : Booking → Booking) : (s.modBooking id f).steps = s.steps := rfl
@[simp] theorem modBooking_out1 (id : Nat) (f : Booking → Booking) : (s.modBooking id f).out1 = s.out1 := rfl
@[simp] theorem modBooking_out2 (id : Nat) (f : Booking → Booking) : (s.modBooking id f).out2 = s.out2 := rfl
@[simp] theorem modBooking_present (id : Nat) (f : Booking → Booking) : (s.modBooking id f).present = s.present := rfl
@[simp] theorem modBooking_pollMiss (id : Nat) (f : Booking → Booking) : (s.modBooking id f).pollMiss = s.pollMiss := rfl
@[simp] theorem modBooking_polled (id : Nat) (f : Booking → Booking) : (s.modBooking id f).polled = s.polled := rfl
@[simp] theorem modBooking_screens (id : Nat) (f : Booking → Booking) : (s.modBooking id f).screens = s.screens := rfl
@[simp] theorem modBooking_profiles (id : Nat) (f : Booking → Booking) : (s.modBooking id f).profiles = s.profiles := rfl
@[simp] theorem modBooking_cpa (id : Nat) (f : Booking → Booking) : (s.modBooking id f).cpa = s.cpa := rfl
@[simp] theorem modBooking_cpb (id : Nat) (f : Booking → Booking) : (s.modBooking id f).cpb = s.cpb := rfl
@[simp] theorem modBooking_scp (id : Nat) (f : Booking → Booking) : (s.modBooking id f).scp = s.scp := rfl
@[simp] theorem modBooking_mdp (id : Nat) (f : Booking → Booking) : (s.modBooking id f).mdp = s.mdp := rfl
@[simp] theorem modBooking_stored (id : Nat) (f : Booking → Booking) : (s.modBooking id f).stored = s.stored := rfl
@[simp] theorem modBooking_write (id : Nat) (f : Booking → Booking) : (s.modBooking id f).write = s.write := rfl
@[simp] theorem modBooking_tablePending (id : Nat) (f : Booking → Booking) : (s.modBooking id f).tablePending = s.tablePending := rfl

/-! ### dropBooking -/

@[simp] theorem dropBooking_pending (id : Nat) : (s.dropBooking id).pending = s.pending := rfl
@[simp] theorem dropBooking_starting (id : Nat) : (s.dropBooking id).starting = s.starting := rfl
@[simp] theorem dropBooking_seats (id : Nat) : (s.dropBooking id).seats = s.seats := rfl
@[simp] theorem dropBooking_north (id : Nat) : (s.dropBooking id).north = s.north := rfl
@[simp] theorem dropBooking_south (id : Nat) : (s.dropBooking id).south = s.south := rfl
@[simp] theorem dropBooking_mode (id : Nat) : (s.dropBooking id).mode = s.mode := rfl
@[simp] theorem dropBooking_k (id : Nat) : (s.dropBooking id).k = s.k := rfl
@[simp] theorem dropBooking_defMode (id : Nat) : (s.dropBooking id).defMode = s.defMode := rfl
@[simp] theorem dropBooking_lead (id : Nat) : (s.dropBooking id).lead = s.lead := rfl
@[simp] theorem dropBooking_secA (id : Nat) : (s.dropBooking id).secA = s.secA := rfl
@[simp] theorem dropBooking_secB (id : Nat) : (s.dropBooking id).secB = s.secB := rfl
@[simp] theorem dropBooking_minute (id : Nat) : (s.dropBooking id).minute = s.minute := rfl
@[simp] theorem dropBooking_second (id : Nat) : (s.dropBooking id).second = s.second := rfl
@[simp] theorem dropBooking_lastId (id : Nat) : (s.dropBooking id).lastId = s.lastId := rfl
@[simp] theorem dropBooking_freezeF (id : Nat) : (s.dropBooking id).freezeF = s.freezeF := rfl
@[simp] theorem dropBooking_guardG (id : Nat) : (s.dropBooking id).guardG = s.guardG := rfl
@[simp] theorem dropBooking_place (id : Nat) : (s.dropBooking id).place = s.place := rfl
@[simp] theorem dropBooking_steps (id : Nat) : (s.dropBooking id).steps = s.steps := rfl
@[simp] theorem dropBooking_out1 (id : Nat) : (s.dropBooking id).out1 = s.out1 := rfl
@[simp] theorem dropBooking_out2 (id : Nat) : (s.dropBooking id).out2 = s.out2 := rfl
@[simp] theorem dropBooking_present (id : Nat) : (s.dropBooking id).present = s.present := rfl
@[simp] theorem dropBooking_pollMiss (id : Nat) : (s.dropBooking id).pollMiss = s.pollMiss := rfl
@[simp] theorem dropBooking_polled (id : Nat) : (s.dropBooking id).polled = s.polled := rfl
@[simp] theorem dropBooking_screens (id : Nat) : (s.dropBooking id).screens = s.screens := rfl
@[simp] theorem dropBooking_profiles (id : Nat) : (s.dropBooking id).profiles = s.profiles := rfl
@[simp] theorem dropBooking_cpa (id : Nat) : (s.dropBooking id).cpa = s.cpa := rfl
@[simp] theorem dropBooking_cpb (id : Nat) : (s.dropBooking id).cpb = s.cpb := rfl
@[simp] theorem dropBooking_scp (id : Nat) : (s.dropBooking id).scp = s.scp := rfl
@[simp] theorem dropBooking_mdp (id : Nat) : (s.dropBooking id).mdp = s.mdp := rfl
@[simp] theorem dropBooking_stored (id : Nat) : (s.dropBooking id).stored = s.stored := rfl
@[simp] theorem dropBooking_write (id : Nat) : (s.dropBooking id).write = s.write := rfl
@[simp] theorem dropBooking_tablePending (id : Nat) : (s.dropBooking id).tablePending = s.tablePending := rfl

/-! ### Accessors -/

@[simp] theorem seat_setSeat_self (i : Seat) (r : SeatRec) : (s.setSeat i r).seat i = r := by
  simp [State.seat, State.setSeat]

@[simp] theorem seat_setSeat_ne (i j : Seat) (r : SeatRec) (h : j ≠ i) : (s.setSeat i r).seat j = s.seat j := by
  have : i.val ≠ j.val := fun e => h (Fin.ext e.symm)
  simp [State.seat, State.setSeat, this]

theorem seat_setSeat (i j : Seat) (r : SeatRec) :
    (s.setSeat i r).seat j = if j = i then r else s.seat j := by
  split
  · next h => subst h; simp
  · next h => simp [h]

theorem seat_modSeat (i j : Seat) (f : SeatRec → SeatRec) :
    (s.modSeat i f).seat j = if j = i then f (s.seat i) else s.seat j := seat_setSeat s i j _

@[simp] theorem seat_modSeat_self (i : Seat) (f : SeatRec → SeatRec) :
    (s.modSeat i f).seat i = f (s.seat i) := by simp [seat_modSeat]

@[simp] theorem seat_modSeat_ne (i j : Seat) (f : SeatRec → SeatRec) (h : j ≠ i) :
    (s.modSeat i f).seat j = s.seat j := by simp [seat_modSeat, h]

@[simp] theorem seat_mapSeats (f : Seat → SeatRec → SeatRec) (i : Seat) :
    (s.mapSeats f).seat i = f i (s.seat i) := by simp [State.seat, State.mapSeats]

@[simp] theorem sect_setSect_self (x : Sect) (r : SectRec) : (s.setSect x r).sect x = r := by cases x <;> rfl

@[simp] theorem sect_setSect_ne (x y : Sect) (r : SectRec) (h : y ≠ x) : (s.setSect x r).sect y = s.sect y := by
  cases x <;> cases y <;> first | rfl | exact absurd rfl h

theorem sect_modSect (x y : Sect) (f : SectRec → SectRec) :
    (s.modSect x f).sect y = if y = x then f (s.sect x) else s.sect y := by
  cases x <;> cases y <;> rfl

@[simp] theorem sect_modSect_self (x : Sect) (f : SectRec → SectRec) : (s.modSect x f).sect x = f (s.sect x) := by
  simp [sect_modSect]

@[simp] theorem sect_modSect_ne (x y : Sect) (f : SectRec → SectRec) (h : y ≠ x) :
    (s.modSect x f).sect y = s.sect y := by simp [sect_modSect, h]

@[simp] theorem ring_setRing_self (d : Side) (r : SeatRing) : (s.setRing d r).ring d = r := by cases d <;> rfl

@[simp] theorem screen_modScreen_self (n : ScreenNo) (f : ScreenRec → ScreenRec) :
    (s.modScreen n f).screen n = f (s.screen n) := by simp [State.screen, State.modScreen]

@[simp] theorem screen_modScreen_ne (n m : ScreenNo) (f : ScreenRec → ScreenRec) (h : m ≠ n) :
    (s.modScreen n f).screen m = s.screen m := by
  have : n.val ≠ m.val := fun e => h (Fin.ext e.symm)
  simp [State.screen, State.modScreen, this]

@[simp] theorem port_setPort_self (p : Port) (r : PortRec) : (s.setPort p r).port p = r := by cases p <;> rfl

@[simp] theorem port_setPort_ne (p q : Port) (r : PortRec) (h : q ≠ p) : (s.setPort p r).port q = s.port q := by
  cases p <;> cases q <;> first | rfl | exact absurd rfl h

@[simp] theorem port_modPort_self (p : Port) (f : PortRec → PortRec) : (s.modPort p f).port p = f (s.port p) := by
  cases p <;> rfl

@[simp] theorem port_modPort_ne (p q : Port) (f : PortRec → PortRec) (h : q ≠ p) :
    (s.modPort p f).port q = s.port q := by
  cases p <;> cases q <;> first | rfl | exact absurd rfl h

@[simp] theorem setPort_setPort (p : Port) (r r' : PortRec) : (s.setPort p r).setPort p r' = s.setPort p r' := by
  cases p <;> rfl

@[simp] theorem modPort_eq_setPort (p : Port) (f : PortRec → PortRec) :
    s.modPort p f = s.setPort p (f (s.port p)) := rfl

@[simp] theorem sect_setSeat (i : Seat) (r : SeatRec) (y : Sect) : (s.setSeat i r).sect y = s.sect y := by cases y <;> first | rfl | rfl
@[simp] theorem screen_setSeat (i : Seat) (r : SeatRec) (m : ScreenNo) : (s.setSeat i r).screen m = s.screen m := rfl
@[simp] theorem ring_setSeat (i : Seat) (r : SeatRec) (e : Side) : (s.setSeat i r).ring e = s.ring e := by cases e <;> first | rfl | rfl
@[simp] theorem port_setSeat (i : Seat) (r : SeatRec) (q : Port) : (s.setSeat i r).port q = s.port q := by cases q <;> first | rfl | rfl
@[simp] theorem sectionOf_setSeat (i : Seat) (r : SeatRec) (j : Seat) : (s.setSeat i r).sectionOf j = s.sectionOf j := rfl
@[simp] theorem sect_modSeat (i : Seat) (f : SeatRec → SeatRec) (y : Sect) : (s.modSeat i f).sect y = s.sect y := by cases y <;> first | rfl | rfl
@[simp] theorem screen_modSeat (i : Seat) (f : SeatRec → SeatRec) (m : ScreenNo) : (s.modSeat i f).screen m = s.screen m := rfl
@[simp] theorem ring_modSeat (i : Seat) (f : SeatRec → SeatRec) (e : Side) : (s.modSeat i f).ring e = s.ring e := by cases e <;> first | rfl | rfl
@[simp] theorem port_modSeat (i : Seat) (f : SeatRec → SeatRec) (q : Port) : (s.modSeat i f).port q = s.port q := by cases q <;> first | rfl | rfl
@[simp] theorem sectionOf_modSeat (i : Seat) (f : SeatRec → SeatRec) (j : Seat) : (s.modSeat i f).sectionOf j = s.sectionOf j := rfl
@[simp] theorem sect_mapSeats (f : Seat → SeatRec → SeatRec) (y : Sect) : (s.mapSeats f).sect y = s.sect y := by cases y <;> simp only [State.mapSeats, State.sect]
@[simp] theorem screen_mapSeats (f : Seat → SeatRec → SeatRec) (m : ScreenNo) : (s.mapSeats f).screen m = s.screen m := by simp only [State.mapSeats, State.screen]
@[simp] theorem ring_mapSeats (f : Seat → SeatRec → SeatRec) (e : Side) : (s.mapSeats f).ring e = s.ring e := by cases e <;> simp only [State.mapSeats, State.ring]
@[simp] theorem port_mapSeats (f : Seat → SeatRec → SeatRec) (q : Port) : (s.mapSeats f).port q = s.port q := by cases q <;> simp only [State.mapSeats, State.port]
@[simp] theorem sectionOf_mapSeats (f : Seat → SeatRec → SeatRec) (j : Seat) : (s.mapSeats f).sectionOf j = s.sectionOf j := by unfold State.sectionOf State.halfOf; rw [mapSeats_mode, mapSeats_k]
@[simp] theorem seat_setSect (x : Sect) (r : SectRec) (j : Seat) : (s.setSect x r).seat j = s.seat j := by cases x <;> rfl
@[simp] theorem screen_setSect (x : Sect) (r : SectRec) (m : ScreenNo) : (s.setSect x r).screen m = s.screen m := by cases x <;> rfl
@[simp] theorem ring_setSect (x : Sect) (r : SectRec) (e : Side) : (s.setSect x r).ring e = s.ring e := by cases e <;> first | rfl | (cases x <;> rfl)
@[simp] theorem port_setSect (x : Sect) (r : SectRec) (q : Port) : (s.setSect x r).port q = s.port q := by cases q <;> first | rfl | (cases x <;> rfl)
@[simp] theorem sectionOf_setSect (x : Sect) (r : SectRec) (j : Seat) : (s.setSect x r).sectionOf j = s.sectionOf j := by cases x <;> rfl
@[simp] theorem seat_modSect (x : Sect) (f : SectRec → SectRec) (j : Seat) : (s.modSect x f).seat j = s.seat j := by cases x <;> rfl
@[simp] theorem screen_modSect (x : Sect) (f : SectRec → SectRec) (m : ScreenNo) : (s.modSect x f).screen m = s.screen m := by cases x <;> rfl
@[simp] theorem ring_modSect (x : Sect) (f : SectRec → SectRec) (e : Side) : (s.modSect x f).ring e = s.ring e := by cases e <;> first | rfl | (cases x <;> rfl)
@[simp] theorem port_modSect (x : Sect) (f : SectRec → SectRec) (q : Port) : (s.modSect x f).port q = s.port q := by cases q <;> first | rfl | (cases x <;> rfl)
@[simp] theorem sectionOf_modSect (x : Sect) (f : SectRec → SectRec) (j : Seat) : (s.modSect x f).sectionOf j = s.sectionOf j := by cases x <;> rfl
@[simp] theorem seat_setRing (d : Side) (r : SeatRing) (j : Seat) : (s.setRing d r).seat j = s.seat j := by cases d <;> rfl
@[simp] theorem sect_setRing (d : Side) (r : SeatRing) (y : Sect) : (s.setRing d r).sect y = s.sect y := by cases y <;> first | rfl | (cases d <;> rfl)
@[simp] theorem screen_setRing (d : Side) (r : SeatRing) (m : ScreenNo) : (s.setRing d r).screen m = s.screen m := by cases d <;> rfl
@[simp] theorem port_setRing (d : Side) (r : SeatRing) (q : Port) : (s.setRing d r).port q = s.port q := by cases q <;> first | rfl | (cases d <;> rfl)
@[simp] theorem sectionOf_setRing (d : Side) (r : SeatRing) (j : Seat) : (s.setRing d r).sectionOf j = s.sectionOf j := by cases d <;> rfl
@[simp] theorem seat_modScreen (n : ScreenNo) (f : ScreenRec → ScreenRec) (j : Seat) : (s.modScreen n f).seat j = s.seat j := rfl
@[simp] theorem sect_modScreen (n : ScreenNo) (f : ScreenRec → ScreenRec) (y : Sect) : (s.modScreen n f).sect y = s.sect y := by cases y <;> first | rfl | rfl
@[simp] theorem ring_modScreen (n : ScreenNo) (f : ScreenRec → ScreenRec) (e : Side) : (s.modScreen n f).ring e = s.ring e := by cases e <;> first | rfl | rfl
@[simp] theorem port_modScreen (n : ScreenNo) (f : ScreenRec → ScreenRec) (q : Port) : (s.modScreen n f).port q = s.port q := by cases q <;> first | rfl | rfl
@[simp] theorem sectionOf_modScreen (n : ScreenNo) (f : ScreenRec → ScreenRec) (j : Seat) : (s.modScreen n f).sectionOf j = s.sectionOf j := rfl
@[simp] theorem seat_setPort (p : Port) (r : PortRec) (j : Seat) : (s.setPort p r).seat j = s.seat j := by cases p <;> rfl
@[simp] theorem sect_setPort (p : Port) (r : PortRec) (y : Sect) : (s.setPort p r).sect y = s.sect y := by cases y <;> first | rfl | (cases p <;> rfl)
@[simp] theorem screen_setPort (p : Port) (r : PortRec) (m : ScreenNo) : (s.setPort p r).screen m = s.screen m := by cases p <;> rfl
@[simp] theorem ring_setPort (p : Port) (r : PortRec) (e : Side) : (s.setPort p r).ring e = s.ring e := by cases e <;> first | rfl | (cases p <;> rfl)
@[simp] theorem sectionOf_setPort (p : Port) (r : PortRec) (j : Seat) : (s.setPort p r).sectionOf j = s.sectionOf j := by cases p <;> rfl
@[simp] theorem seat_modPort (p : Port) (f : PortRec → PortRec) (j : Seat) : (s.modPort p f).seat j = s.seat j := by cases p <;> rfl
@[simp] theorem sect_modPort (p : Port) (f : PortRec → PortRec) (y : Sect) : (s.modPort p f).sect y = s.sect y := by cases y <;> first | rfl | (cases p <;> rfl)
@[simp] theorem screen_modPort (p : Port) (f : PortRec → PortRec) (m : ScreenNo) : (s.modPort p f).screen m = s.screen m := by cases p <;> rfl
@[simp] theorem ring_modPort (p : Port) (f : PortRec → PortRec) (e : Side) : (s.modPort p f).ring e = s.ring e := by cases e <;> first | rfl | (cases p <;> rfl)
@[simp] theorem sectionOf_modPort (p : Port) (f : PortRec → PortRec) (j : Seat) : (s.modPort p f).sectionOf j = s.sectionOf j := by cases p <;> rfl
@[simp] theorem seat_modBooking (id : Nat) (f : Booking → Booking) (j : Seat) : (s.modBooking id f).seat j = s.seat j := rfl
@[simp] theorem sect_modBooking (id : Nat) (f : Booking → Booking) (y : Sect) : (s.modBooking id f).sect y = s.sect y := by cases y <;> first | rfl | rfl
@[simp] theorem screen_modBooking (id : Nat) (f : Booking → Booking) (m : ScreenNo) : (s.modBooking id f).screen m = s.screen m := rfl
@[simp] theorem ring_modBooking (id : Nat) (f : Booking → Booking) (e : Side) : (s.modBooking id f).ring e = s.ring e := by cases e <;> first | rfl | rfl
@[simp] theorem port_modBooking (id : Nat) (f : Booking → Booking) (q : Port) : (s.modBooking id f).port q = s.port q := by cases q <;> first | rfl | rfl
@[simp] theorem sectionOf_modBooking (id : Nat) (f : Booking → Booking) (j : Seat) : (s.modBooking id f).sectionOf j = s.sectionOf j := rfl
@[simp] theorem seat_dropBooking (id : Nat) (j : Seat) : (s.dropBooking id).seat j = s.seat j := rfl
@[simp] theorem sect_dropBooking (id : Nat) (y : Sect) : (s.dropBooking id).sect y = s.sect y := by cases y <;> first | rfl | rfl
@[simp] theorem screen_dropBooking (id : Nat) (m : ScreenNo) : (s.dropBooking id).screen m = s.screen m := rfl
@[simp] theorem ring_dropBooking (id : Nat) (e : Side) : (s.dropBooking id).ring e = s.ring e := by cases e <;> first | rfl | rfl
@[simp] theorem port_dropBooking (id : Nat) (q : Port) : (s.dropBooking id).port q = s.port q := by cases q <;> first | rfl | rfl
@[simp] theorem sectionOf_dropBooking (id : Nat) (j : Seat) : (s.dropBooking id).sectionOf j = s.sectionOf j := rfl

end Sys2Proof.Machine
end

