-- ==== Sys2Proof/Laws/Ports.lean ====
section
/-! SUPPORT. What the port block does with a request, said once: the record after acceptance, each refusal of
R191, and a request that is taken. -/

set_option autoImplicit false

namespace Sys2Proof.Machine

variable (s : State) (p : Port)

@[simp] theorem accepted_pending (n : Nat) : (s.accepted p n).pending = s.pending := setPort_pending s p _
@[simp] theorem accepted_starting (n : Nat) : (s.accepted p n).starting = s.starting := setPort_starting s p _
@[simp] theorem accepted_seats (n : Nat) : (s.accepted p n).seats = s.seats := setPort_seats s p _
@[simp] theorem accepted_north (n : Nat) : (s.accepted p n).north = s.north := setPort_north s p _
@[simp] theorem accepted_south (n : Nat) : (s.accepted p n).south = s.south := setPort_south s p _
@[simp] theorem accepted_mode (n : Nat) : (s.accepted p n).mode = s.mode := setPort_mode s p _
@[simp] theorem accepted_k (n : Nat) : (s.accepted p n).k = s.k := setPort_k s p _
@[simp] theorem accepted_defMode (n : Nat) : (s.accepted p n).defMode = s.defMode := setPort_defMode s p _
@[simp] theorem accepted_lead (n : Nat) : (s.accepted p n).lead = s.lead := setPort_lead s p _
@[simp] theorem accepted_secA (n : Nat) : (s.accepted p n).secA = s.secA := setPort_secA s p _
@[simp] theorem accepted_secB (n : Nat) : (s.accepted p n).secB = s.secB := setPort_secB s p _
@[simp] theorem accepted_minute (n : Nat) : (s.accepted p n).minute = s.minute := setPort_minute s p _
@[simp] theorem accepted_second (n : Nat) : (s.accepted p n).second = s.second := setPort_second s p _
@[simp] theorem accepted_bookings (n : Nat) : (s.accepted p n).bookings = s.bookings := setPort_bookings s p _
@[simp] theorem accepted_lastId (n : Nat) : (s.accepted p n).lastId = s.lastId := setPort_lastId s p _
@[simp] theorem accepted_freezeF (n : Nat) : (s.accepted p n).freezeF = s.freezeF := setPort_freezeF s p _
@[simp] theorem accepted_guardG (n : Nat) : (s.accepted p n).guardG = s.guardG := setPort_guardG s p _
@[simp] theorem accepted_place (n : Nat) : (s.accepted p n).place = s.place := setPort_place s p _
@[simp] theorem accepted_out1 (n : Nat) : (s.accepted p n).out1 = s.out1 := setPort_out1 s p _
@[simp] theorem accepted_out2 (n : Nat) : (s.accepted p n).out2 = s.out2 := setPort_out2 s p _
@[simp] theorem accepted_present (n : Nat) : (s.accepted p n).present = s.present := setPort_present s p _
@[simp] theorem accepted_pollMiss (n : Nat) : (s.accepted p n).pollMiss = s.pollMiss := setPort_pollMiss s p _
@[simp] theorem accepted_polled (n : Nat) : (s.accepted p n).polled = s.polled := setPort_polled s p _
@[simp] theorem accepted_screens (n : Nat) : (s.accepted p n).screens = s.screens := setPort_screens s p _
@[simp] theorem accepted_profiles (n : Nat) : (s.accepted p n).profiles = s.profiles := setPort_profiles s p _
@[simp] theorem accepted_stored (n : Nat) : (s.accepted p n).stored = s.stored := setPort_stored s p _
@[simp] theorem accepted_write (n : Nat) : (s.accepted p n).write = s.write := setPort_write s p _
@[simp] theorem accepted_tablePending (n : Nat) : (s.accepted p n).tablePending = s.tablePending := setPort_tablePending s p _

@[simp] theorem answers_pending (code : Byte) (n : Nat) (rc : ReplyCode) (l : List Byte) :
    (s.answers p code n rc l).pending = s.pending := setPort_pending s p _
@[simp] theorem answers_starting (code : Byte) (n : Nat) (rc : ReplyCode) (l : List Byte) :
    (s.answers p code n rc l).starting = s.starting := setPort_starting s p _
@[simp] theorem answers_seats (code : Byte) (n : Nat) (rc : ReplyCode) (l : List Byte) :
    (s.answers p code n rc l).seats = s.seats := setPort_seats s p _
@[simp] theorem answers_north (code : Byte) (n : Nat) (rc : ReplyCode) (l : List Byte) :
    (s.answers p code n rc l).north = s.north := setPort_north s p _
@[simp] theorem answers_south (code : Byte) (n : Nat) (rc : ReplyCode) (l : List Byte) :
    (s.answers p code n rc l).south = s.south := setPort_south s p _
@[simp] theorem answers_mode (code : Byte) (n : Nat) (rc : ReplyCode) (l : List Byte) :
    (s.answers p code n rc l).mode = s.mode := setPort_mode s p _
@[simp] theorem answers_k (code : Byte) (n : Nat) (rc : ReplyCode) (l : List Byte) :
    (s.answers p code n rc l).k = s.k := setPort_k s p _
@[simp] theorem answers_defMode (code : Byte) (n : Nat) (rc : ReplyCode) (l : List Byte) :
    (s.answers p code n rc l).defMode = s.defMode := setPort_defMode s p _
@[simp] theorem answers_lead (code : Byte) (n : Nat) (rc : ReplyCode) (l : List Byte) :
    (s.answers p code n rc l).lead = s.lead := setPort_lead s p _
@[simp] theorem answers_secA (code : Byte) (n : Nat) (rc : ReplyCode) (l : List Byte) :
    (s.answers p code n rc l).secA = s.secA := setPort_secA s p _
@[simp] theorem answers_secB (code : Byte) (n : Nat) (rc : ReplyCode) (l : List Byte) :
    (s.answers p code n rc l).secB = s.secB := setPort_secB s p _
@[simp] theorem answers_minute (code : Byte) (n : Nat) (rc : ReplyCode) (l : List Byte) :
    (s.answers p code n rc l).minute = s.minute := setPort_minute s p _
@[simp] theorem answers_second (code : Byte) (n : Nat) (rc : ReplyCode) (l : List Byte) :
    (s.answers p code n rc l).second = s.second := setPort_second s p _
@[simp] theorem answers_bookings (code : Byte) (n : Nat) (rc : ReplyCode) (l : List Byte) :
    (s.answers p code n rc l).bookings = s.bookings := setPort_bookings s p _
@[simp] theorem answers_lastId (code : Byte) (n : Nat) (rc : ReplyCode) (l : List Byte) :
    (s.answers p code n rc l).lastId = s.lastId := setPort_lastId s p _
@[simp] theorem answers_freezeF (code : Byte) (n : Nat) (rc : ReplyCode) (l : List Byte) :
    (s.answers p code n rc l).freezeF = s.freezeF := setPort_freezeF s p _
@[simp] theorem answers_guardG (code : Byte) (n : Nat) (rc : ReplyCode) (l : List Byte) :
    (s.answers p code n rc l).guardG = s.guardG := setPort_guardG s p _
@[simp] theorem answers_place (code : Byte) (n : Nat) (rc : ReplyCode) (l : List Byte) :
    (s.answers p code n rc l).place = s.place := setPort_place s p _
@[simp] theorem answers_out1 (code : Byte) (n : Nat) (rc : ReplyCode) (l : List Byte) :
    (s.answers p code n rc l).out1 = s.out1 := setPort_out1 s p _
@[simp] theorem answers_out2 (code : Byte) (n : Nat) (rc : ReplyCode) (l : List Byte) :
    (s.answers p code n rc l).out2 = s.out2 := setPort_out2 s p _
@[simp] theorem answers_present (code : Byte) (n : Nat) (rc : ReplyCode) (l : List Byte) :
    (s.answers p code n rc l).present = s.present := setPort_present s p _
@[simp] theorem answers_pollMiss (code : Byte) (n : Nat) (rc : ReplyCode) (l : List Byte) :
    (s.answers p code n rc l).pollMiss = s.pollMiss := setPort_pollMiss s p _
@[simp] theorem answers_polled (code : Byte) (n : Nat) (rc : ReplyCode) (l : List Byte) :
    (s.answers p code n rc l).polled = s.polled := setPort_polled s p _
@[simp] theorem answers_screens (code : Byte) (n : Nat) (rc : ReplyCode) (l : List Byte) :
    (s.answers p code n rc l).screens = s.screens := setPort_screens s p _
@[simp] theorem answers_profiles (code : Byte) (n : Nat) (rc : ReplyCode) (l : List Byte) :
    (s.answers p code n rc l).profiles = s.profiles := setPort_profiles s p _
@[simp] theorem answers_stored (code : Byte) (n : Nat) (rc : ReplyCode) (l : List Byte) :
    (s.answers p code n rc l).stored = s.stored := setPort_stored s p _
@[simp] theorem answers_write (code : Byte) (n : Nat) (rc : ReplyCode) (l : List Byte) :
    (s.answers p code n rc l).write = s.write := setPort_write s p _
@[simp] theorem answers_tablePending (code : Byte) (n : Nat) (rc : ReplyCode) (l : List Byte) :
    (s.answers p code n rc l).tablePending = s.tablePending := setPort_tablePending s p _
@[simp] theorem seat_accepted (n : Nat) (i : Seat) : (s.accepted p n).seat i = s.seat i := by
  simp [State.accepted]
@[simp] theorem seat_answers (code : Byte) (n : Nat) (rc : ReplyCode) (l : List Byte) (i : Seat) :
    (s.answers p code n rc l).seat i = s.seat i := by simp [State.answers]
@[simp] theorem seat_placeReply (code : Byte) (rc : ReplyCode) (l : List Byte) (i : Seat) :
    (s.placeReply p code rc l).seat i = s.seat i := by simp [State.placeReply]
@[simp] theorem sect_accepted (n : Nat) (i : Sect) : (s.accepted p n).sect i = s.sect i := by
  simp [State.accepted]
@[simp] theorem sect_answers (code : Byte) (n : Nat) (rc : ReplyCode) (l : List Byte) (i : Sect) :
    (s.answers p code n rc l).sect i = s.sect i := by simp [State.answers]
@[simp] theorem sect_placeReply (code : Byte) (rc : ReplyCode) (l : List Byte) (i : Sect) :
    (s.placeReply p code rc l).sect i = s.sect i := by simp [State.placeReply]
@[simp] theorem screen_accepted (n : Nat) (i : ScreenNo) : (s.accepted p n).screen i = s.screen i := by
  simp [State.accepted]
@[simp] theorem screen_answers (code : Byte) (n : Nat) (rc : ReplyCode) (l : List Byte) (i : ScreenNo) :
    (s.answers p code n rc l).screen i = s.screen i := by simp [State.answers]
@[simp] theorem screen_placeReply (code : Byte) (rc : ReplyCode) (l : List Byte) (i : ScreenNo) :
    (s.placeReply p code rc l).screen i = s.screen i := by simp [State.placeReply]
@[simp] theorem ring_accepted (n : Nat) (i : Side) : (s.accepted p n).ring i = s.ring i := by
  simp [State.accepted]
@[simp] theorem ring_answers (code : Byte) (n : Nat) (rc : ReplyCode) (l : List Byte) (i : Side) :
    (s.answers p code n rc l).ring i = s.ring i := by simp [State.answers]
@[simp] theorem ring_placeReply (code : Byte) (rc : ReplyCode) (l : List Byte) (i : Side) :
    (s.placeReply p code rc l).ring i = s.ring i := by simp [State.placeReply]
@[simp] theorem sectionOf_accepted (n : Nat) (i : Seat) : (s.accepted p n).sectionOf i = s.sectionOf i := by
  simp [State.accepted]
@[simp] theorem sectionOf_answers (code : Byte) (n : Nat) (rc : ReplyCode) (l : List Byte) (i : Seat) :
    (s.answers p code n rc l).sectionOf i = s.sectionOf i := by simp [State.answers]
@[simp] theorem sectionOf_placeReply (code : Byte) (rc : ReplyCode) (l : List Byte) (i : Seat) :
    (s.placeReply p code rc l).sectionOf i = s.sectionOf i := by simp [State.placeReply]
@[simp] theorem placeReply_pending (code : Byte) (rc : ReplyCode) (l : List Byte) :
    (s.placeReply p code rc l).pending = s.pending := setPort_pending s p _
@[simp] theorem placeReply_starting (code : Byte) (rc : ReplyCode) (l : List Byte) :
    (s.placeReply p code rc l).starting = s.starting := setPort_starting s p _
@[simp] theorem placeReply_seats (code : Byte) (rc : ReplyCode) (l : List Byte) :
    (s.placeReply p code rc l).seats = s.seats := setPort_seats s p _
@[simp] theorem placeReply_north (code : Byte) (rc : ReplyCode) (l : List Byte) :
    (s.placeReply p code rc l).north = s.north := setPort_north s p _
@[simp] theorem placeReply_south (code : Byte) (rc : ReplyCode) (l : List Byte) :
    (s.placeReply p code rc l).south = s.south := setPort_south s p _
@[simp] theorem placeReply_mode (code : Byte) (rc : ReplyCode) (l : List Byte) :
    (s.placeReply p code rc l).mode = s.mode := setPort_mode s p _
@[simp] theorem placeReply_k (code : Byte) (rc : ReplyCode) (l : List Byte) :
    (s.placeReply p code rc l).k = s.k := setPort_k s p _
@[simp] theorem placeReply_defMode (code : Byte) (rc : ReplyCode) (l : List Byte) :
    (s.placeReply p code rc l).defMode = s.defMode := setPort_defMode s p _
@[simp] theorem placeReply_lead (code : Byte) (rc : ReplyCode) (l : List Byte) :
    (s.placeReply p code rc l).lead = s.lead := setPort_lead s p _
@[simp] theorem placeReply_secA (code : Byte) (rc : ReplyCode) (l : List Byte) :
    (s.placeReply p code rc l).secA = s.secA := setPort_secA s p _
@[simp] theorem placeReply_secB (code : Byte) (rc : ReplyCode) (l : List Byte) :
    (s.placeReply p code rc l).secB = s.secB := setPort_secB s p _
@[simp] theorem placeReply_minute (code : Byte) (rc : ReplyCode) (l : List Byte) :
    (s.placeReply p code rc l).minute = s.minute := setPort_minute s p _
@[simp] theorem placeReply_second (code : Byte) (rc : ReplyCode) (l : List Byte) :
    (s.placeReply p code rc l).second = s.second := setPort_second s p _
@[simp] theorem placeReply_bookings (code : Byte) (rc : ReplyCode) (l : List Byte) :
    (s.placeReply p code rc l).bookings = s.bookings := setPort_bookings s p _
@[simp] theorem placeReply_lastId (code : Byte) (rc : ReplyCode) (l : List Byte) :
    (s.placeReply p code rc l).lastId = s.lastId := setPort_lastId s p _
@[simp] theorem placeReply_freezeF (code : Byte) (rc : ReplyCode) (l : List Byte) :
    (s.placeReply p code rc l).freezeF = s.freezeF := setPort_freezeF s p _
@[simp] theorem placeReply_guardG (code : Byte) (rc : ReplyCode) (l : List Byte) :
    (s.placeReply p code rc l).guardG = s.guardG := setPort_guardG s p _
@[simp] theorem placeReply_place (code : Byte) (rc : ReplyCode) (l : List Byte) :
    (s.placeReply p code rc l).place = s.place := setPort_place s p _
@[simp] theorem placeReply_out1 (code : Byte) (rc : ReplyCode) (l : List Byte) :
    (s.placeReply p code rc l).out1 = s.out1 := setPort_out1 s p _
@[simp] theorem placeReply_out2 (code : Byte) (rc : ReplyCode) (l : List Byte) :
    (s.placeReply p code rc l).out2 = s.out2 := setPort_out2 s p _
@[simp] theorem placeReply_present (code : Byte) (rc : ReplyCode) (l : List Byte) :
    (s.placeReply p code rc l).present = s.present := setPort_present s p _
@[simp] theorem placeReply_pollMiss (code : Byte) (rc : ReplyCode) (l : List Byte) :
    (s.placeReply p code rc l).pollMiss = s.pollMiss := setPort_pollMiss s p _
@[simp] theorem placeReply_polled (code : Byte) (rc : ReplyCode) (l : List Byte) :
    (s.placeReply p code rc l).polled = s.polled := setPort_polled s p _
@[simp] theorem placeReply_screens (code : Byte) (rc : ReplyCode) (l : List Byte) :
    (s.placeReply p code rc l).screens = s.screens := setPort_screens s p _
@[simp] theorem placeReply_profiles (code : Byte) (rc : ReplyCode) (l : List Byte) :
    (s.placeReply p code rc l).profiles = s.profiles := setPort_profiles s p _
@[simp] theorem placeReply_stored (code : Byte) (rc : ReplyCode) (l : List Byte) :
    (s.placeReply p code rc l).stored = s.stored := setPort_stored s p _
@[simp] theorem placeReply_write (code : Byte) (rc : ReplyCode) (l : List Byte) :
    (s.placeReply p code rc l).write = s.write := setPort_write s p _
@[simp] theorem placeReply_tablePending (code : Byte) (rc : ReplyCode) (l : List Byte) :
    (s.placeReply p code rc l).tablePending = s.tablePending := setPort_tablePending s p _

@[simp] theorem port_accepted_self (n : Nat) :
    (s.accepted p n).port p = acceptedRecord s.starting n (s.port p) := by simp [State.accepted]

@[simp] theorem port_accepted_ne (n : Nat) (q : Port) (h : q ≠ p) : (s.accepted p n).port q = s.port q := by
  simp [State.accepted, h]

@[simp] theorem port_answers_self (code : Byte) (n : Nat) (rc : ReplyCode) (l : List Byte) :
    (s.answers p code n rc l).port p = repliedRecord code rc l (acceptedRecord s.starting n (s.port p)) := by
  simp [State.answers]

@[simp] theorem port_answers_ne (code : Byte) (n : Nat) (rc : ReplyCode) (l : List Byte) (q : Port)
    (h : q ≠ p) : (s.answers p code n rc l).port q = s.port q := by simp [State.answers, h]

/-- An accepted request whose answer is placed at once. -/
theorem placeReply_accepted (n : Nat) (code : Byte) (rc : ReplyCode) (l : List Byte) :
    (s.accepted p n).placeReply p code rc l = s.answers p code n rc l := by
  simp [State.accepted, State.placeReply, State.answers, repliedRecord]

/-- A refusal leaves the state as it was taken. -/
theorem answerTo_refused (code : Byte) (rc : ReplyCode) (n : Nat) :
    answerTo p code ((s.accepted p n).refused rc) = s.answers p code n rc [] := by
  simp [answerTo, State.refused, placeReply_accepted]

/-- The acceptance of R191, from the status byte on. -/
theorem accepted_eq (n : Nat) :
    (s.shiftOut p (List.replicate (n + 1) 0)).modPort p acceptRequest = s.accepted p n := by
  simp [State.shiftOut, State.accepted, acceptedRecord, acceptRequest, clearSticky]

section Transact

variable (code : Byte) (payload : List Byte) (allowed : List Port) (lenOk : Bool) (body : State → Taken)

/-- A request that finds REQ_BUSY set (R191, step 1). -/
theorem transact_busy (hl : payload.length ≤ 250) (hb : (s.port p).busy = true) :
    s.transact p code payload allowed lenOk body = s.setPort p
      { s.port p with noticeLost := false, framing := false, overrun := true, replyLost := false,
                      out := statusByte s.starting (s.port p) :: List.replicate (payload.length + 1) 0 } := by
  have : ¬ payload.length > 250 := by omega
  simp [State.transact, State.shiftOut, this, clearSticky, hb]

/-- A request that is accepted goes on to the checks of taking (R191, steps 2 and 3). -/
theorem transact_accepted (hl : payload.length ≤ 250) (hb : (s.port p).busy = false) :
    s.transact p code payload allowed lenOk body =
      answerTo p code ((s.accepted p payload.length).take p allowed lenOk body) := by
  have : ¬ payload.length > 250 := by omega
  have hb' : ((s.shiftOut p (List.replicate (payload.length + 1) 0)).port p).busy = false := by
    simp [State.shiftOut, clearSticky, hb]
  simp only [State.transact, this, if_false, hb', Bool.false_eq_true, accepted_eq]

/-- STARTING. -/
theorem transact_starting (hl : payload.length ≤ 250) (hb : (s.port p).busy = false) (hs : s.starting = true) :
    s.transact p code payload allowed lenOk body = s.answers p code payload.length .starting [] := by
  rw [transact_accepted s p code payload allowed lenOk body hl hb]
  simp only [State.take, accepted_starting, hs, if_true, answerTo_refused]

/-- NOT_PERMITTED. -/
theorem transact_notPermitted (hl : payload.length ≤ 250) (h : s.takesFrom p) (hp : p ∉ allowed) :
    s.transact p code payload allowed lenOk body = s.answers p code payload.length .notPermitted [] := by
  rw [transact_accepted s p code payload allowed lenOk body hl h.2]
  simp [State.take, h.1, hp, answerTo_refused]

/-- LENGTH. -/
theorem transact_length (hl : payload.length ≤ 250) (h : s.takesFrom p) (hp : p ∈ allowed) :
    s.transact p code payload allowed false body = s.answers p code payload.length .length [] := by
  rw [transact_accepted s p code payload allowed false body hl h.2]
  simp [State.take, h.1, hp, answerTo_refused]

/-- A request that passes the checks is handed to the block that owns the command. -/
theorem transact_taken (hl : payload.length ≤ 250) (h : s.takesFrom p) (hp : p ∈ allowed) :
    s.transact p code payload allowed true body =
      answerTo p code (body (s.accepted p payload.length)) := by
  rw [transact_accepted s p code payload allowed true body hl h.2]
  simp [State.take, h.1, hp]

end Transact

/-- The lead check of a chair port that commands a section (R32, R183). -/
theorem asChair_some (x : Sect) (body : Sect → State → Taken) (h : s.commanded p = some x) :
    s.asChair p body = body x (s.retriggerIdle x) := by simp [State.asChair, h]

/-- The lead check of a chair port that commands none. -/
theorem asChair_none (body : Sect → State → Taken) (h : s.commanded p = none) :
    s.asChair p body = s.refused .notLead := by simp [State.asChair, h]

@[simp] theorem commanded_accepted (n : Nat) (q : Port) : (s.accepted p n).commanded q = s.commanded q := by
  simp [State.commanded]

/-- An answer that is placed at once. -/
theorem answerTo_now (t : State) (code : Byte) (rc : ReplyCode) (l : List Byte) :
    answerTo p code (t, .now rc l) = t.placeReply p code rc l := rfl

end Sys2Proof.Machine
end

