-- ==== Sys2Proof/Laws/Frames.lean ====
section
/-! SUPPORT. What the shared operations of the floor, the queue, the turns, the presenters and the sessions can
change at all: each is one step of `FloorStep`, which composes. -/

set_option autoImplicit false

namespace Sys2Proof.Machine

/-! ### The pieces compose -/

theorem SameBase.rfl' (s : State) : SameBase s s := by constructor <;> rfl

theorem SameBase.trans {s t u : State} (h : SameBase s t) (k : SameBase t u) : SameBase s u := by
  constructor
  · exact k.pending.trans h.pending
  · exact k.starting.trans h.starting
  · exact k.north.trans h.north
  · exact k.south.trans h.south
  · exact k.mode.trans h.mode
  · exact k.k.trans h.k
  · exact k.defMode.trans h.defMode
  · exact k.lead.trans h.lead
  · exact k.minute.trans h.minute
  · exact k.second.trans h.second
  · exact k.lastId.trans h.lastId
  · exact k.freezeF.trans h.freezeF
  · exact k.guardG.trans h.guardG
  · exact k.place.trans h.place
  · exact k.steps.trans h.steps
  · exact k.out1.trans h.out1
  · exact k.out2.trans h.out2
  · exact k.present.trans h.present
  · exact k.pollMiss.trans h.pollMiss
  · exact k.polled.trans h.polled
  · exact k.profiles.trans h.profiles
  · exact k.stored.trans h.stored
  · exact k.write.trans h.write
  · exact k.tablePending.trans h.tablePending

theorem SameBase.sectionOf {s t : State} (h : SameBase s t) (i : Seat) : t.sectionOf i = s.sectionOf i := by
  unfold State.sectionOf State.halfOf
  rw [h.mode, h.k]

theorem SameUnit.rfl' (r : SeatRec) : SameUnit r r := by constructor <;> rfl

theorem SameUnit.trans {r r' r'' : SeatRec} (h : SameUnit r r') (k : SameUnit r' r'') : SameUnit r r'' := by
  constructor
  · exact k.presence.trans h.presence
  · exact k.bringUp.trans h.bringUp
  · exact k.miss.trans h.miss
  · exact k.kind.trans h.kind
  · exact k.fault.trans h.fault
  · exact k.ackRing.trans h.ackRing
  · exact k.ackPlate.trans h.ackPlate
  · exact k.expectSeq.trans h.expectSeq
  · exact k.map.trans h.map
  · exact k.micNow.trans h.micNow
  · exact k.micNext.trans h.micNext
  · exact k.feedNow.trans h.feedNow
  · exact k.feedLast.trans h.feedLast

theorem SameFloor.rfl' (r : SeatRec) : SameFloor r r := by constructor <;> rfl

theorem SameFloor.trans {r r' r'' : SeatRec} (h : SameFloor r r') (k : SameFloor r' r'') : SameFloor r r'' := by
  constructor
  · exact k.part.trans h.part
  · exact k.mic.trans h.mic
  · exact k.ramp.trans h.ramp
  · exact k.slot.trans h.slot
  · exact k.stamp.trans h.stamp
  · exact k.byPriority.trans h.byPriority
  · exact k.fadeReport.trans h.fadeReport
  · exact k.turn.trans h.turn
  · exact k.cumul.trans h.cumul

theorem NoticesOnly.rfl' (r : PortRec) : NoticesOnly r r := by
  constructor
  all_goals first | rfl | exact List.prefix_refl _ | exact id

theorem NoticesOnly.trans {r r' r'' : PortRec} (h : NoticesOnly r r') (k : NoticesOnly r' r'') :
    NoticesOnly r r'' := by
  constructor
  · exact k.busy.trans h.busy
  · exact k.framing.trans h.framing
  · exact k.overrun.trans h.overrun
  · exact k.replyLost.trans h.replyLost
  · exact k.reply.trans h.reply
  · exact k.out.trans h.out
  · exact h.notices.trans k.notices
  · exact fun a => k.noticeLost (h.noticeLost a)

theorem SameLink.rfl' (r : ScreenRec) : SameLink r r := by constructor <;> rfl

theorem SameLink.trans {r r' r'' : ScreenRec} (h : SameLink r r') (k : SameLink r' r'') : SameLink r r'' :=
  ⟨k.assigned.trans h.assigned, k.eff.trans h.eff, k.link.trans h.link⟩

/-- A step at the floor of section x: its frame, the booking it runs kept or gone, and notices at the ports. -/
structure FloorStep (x : Sect) (s t : State) : Prop where
  frame : FloorFrame x s t
  booking : (t.sect x).booking = (s.sect x).booking ∨ (t.sect x).booking = none
  ports : ∀ q, NoticesOnly (s.port q) (t.port q)

theorem FloorStep.rfl' (x : Sect) (s : State) : FloorStep x s s :=
  ⟨⟨.rfl' s, fun _ => .rfl' _, fun _ _ => .rfl' _, fun _ => rfl, fun _ _ => rfl, fun _ h => h, fun _ h _ => h,
    fun _ => .rfl' _⟩, .inl rfl, fun _ => .rfl' _⟩

theorem FloorStep.trans {x : Sect} {s t u : State} (h : FloorStep x s t) (k : FloorStep x t u) :
    FloorStep x s u := by
  have hf := h.frame
  have kf := k.frame
  refine ⟨⟨hf.base.trans kf.base, fun i => (hf.unit i).trans (kf.unit i), fun i hi => ?_, fun i => ?_,
    fun y hy => (kf.otherSect y hy).trans (hf.otherSect y hy), fun b hb => hf.bookings b (kf.bookings b hb),
    fun b hb hn => ?_, fun n => (hf.screens n).trans (kf.screens n)⟩, ?_, fun q => (h.ports q).trans (k.ports q)⟩
  · exact (hf.others i hi).trans (kf.others i (by rwa [hf.base.sectionOf]))
  · exact (kf.cumul i).trans (hf.cumul i)
  · refine kf.kept b (hf.kept b hb hn) ?_
    rcases h.booking with e | e <;> rw [e]
    · exact hn
    · simp
  · rcases k.booking with e | e
    · rw [e]; exact h.booking
    · exact .inr e

/-! ### Updates -/

/-- Changes of seat records that leave the unit parts, and outside a section the floor parts too. -/
theorem floorStep_seats (x : Sect) (s t : State) (h : { t with seats := s.seats } = s)
    (hu : ∀ i, SameUnit (s.seat i) (t.seat i)) (hc : ∀ i, (t.seat i).cumul = (s.seat i).cumul)
    (ho : ∀ i, s.sectionOf i ≠ x → SameFloor (s.seat i) (t.seat i)) : FloorStep x s t := by
  have e : ∀ {α : Type} (f : State → α), (∀ a, f { t with seats := a } = f t) → f t = f s := by
    intro α f hf
    rw [← hf s.seats, h]
  refine ⟨⟨?_, hu, ho, hc, fun y _ => ?_, fun b hb => ?_, fun b hb _ => ?_, fun n => ?_⟩, .inl ?_, fun q => ?_⟩
  · constructor
    all_goals (refine e (fun s => _) fun a => ?_; rfl)
  · rw [e (fun s => s.sect y) (fun a => by cases y <;> rfl)]
  · rwa [← e (fun s => s.bookings) (fun a => rfl)]
  · rwa [e (fun s => s.bookings) (fun a => rfl)]
  · rw [e (fun s => s.screen n) (fun a => rfl)]; exact .rfl' _
  · rw [e (fun s => s.sect x) (fun a => by cases x <;> rfl)]
  · rw [e (fun s => s.port q) (fun a => by cases q <;> rfl)]; exact .rfl' _

/-- A change of one seat's record in the section. -/
theorem floorStep_modSeat (s : State) (i : Seat) (f : SeatRec → SeatRec) (hu : SameUnit (s.seat i) (f (s.seat i)))
    (hc : (f (s.seat i)).cumul = (s.seat i).cumul) : FloorStep (s.sectionOf i) s (s.modSeat i f) := by
  refine floorStep_seats _ _ _ rfl (fun j => ?_) (fun j => ?_) (fun j hj => ?_)
  · by_cases h : j = i
    · subst h; rw [seat_modSeat_self]; exact hu
    · rw [seat_modSeat_ne _ _ _ _ h]; exact .rfl' _
  · by_cases h : j = i
    · subst h; rw [seat_modSeat_self]; exact hc
    · rw [seat_modSeat_ne _ _ _ _ h]
  · have h : j ≠ i := fun e => hj (by rw [e])
    rw [seat_modSeat_ne _ _ _ _ h]; exact .rfl' _

/-- A change of the section's own record that keeps its booking or drops it. -/
theorem floorStep_modSect (x : Sect) (s : State) (f : SectRec → SectRec)
    (hb : (f (s.sect x)).booking = (s.sect x).booking ∨ (f (s.sect x)).booking = none) :
    FloorStep x s (s.modSect x f) := by
  refine ⟨⟨?_, fun i => ?_, fun i _ => ?_, fun i => ?_, fun y hy => ?_, fun b h => ?_, fun b h _ => ?_,
    fun n => ?_⟩, ?_, fun q => ?_⟩
  · constructor <;> simp
  · simpa using SameUnit.rfl' _
  · simpa using SameFloor.rfl' _
  · simp
  · rw [sect_modSect_ne _ _ _ _ hy]
  · simpa using h
  · simpa using h
  · simpa using SameLink.rfl' _
  · rw [sect_modSect_self]; exact hb
  · simpa using NoticesOnly.rfl' _

/-- A change of any section's presenter. -/
theorem floorStep_presenter (x y : Sect) (s : State) (p : Option (Seat × Origin)) :
    FloorStep x s (s.modSect y fun r => { r with presenter := p }) := by
  refine ⟨⟨?_, fun i => ?_, fun i _ => ?_, fun i => ?_, fun z hz => ?_, fun b h => ?_, fun b h _ => ?_,
    fun n => ?_⟩, .inl ?_, fun q => ?_⟩
  · constructor <;> simp
  · simpa using SameUnit.rfl' _
  · simpa using SameFloor.rfl' _
  · simp
  · rw [sect_modSect]; split
    · next h => subst h; rfl
    · rfl
  · simpa using h
  · simpa using h
  · simpa using SameLink.rfl' _
  · rw [sect_modSect]; split
    · next h => subst h; rfl
    · rfl
  · simpa using NoticesOnly.rfl' _

theorem noticesOnly_joinQueue (n : Notice) (r : PortRec) : NoticesOnly r (joinQueue n r) := by
  unfold joinQueue
  split <;> constructor <;> simp

theorem floorStep_modPort (x : Sect) (s : State) (p : Port) (n : Notice) :
    FloorStep x s (s.modPort p (joinQueue n)) := by
  refine ⟨⟨?_, fun i => ?_, fun i _ => ?_, fun i => ?_, fun z hz => ?_, fun b h => ?_, fun b h _ => ?_,
    fun n => ?_⟩, .inl ?_, fun q => ?_⟩
  · constructor <;> simp
  · simpa using SameUnit.rfl' _
  · simpa using SameFloor.rfl' _
  · simp
  · simp
  · simpa using h
  · simpa using h
  · simpa using SameLink.rfl' _
  · simp
  · by_cases h : q = p
    · subst h; simpa using noticesOnly_joinQueue n _
    · rw [port_modPort_ne _ _ _ _ h]; exact .rfl' _

/-- A notice changes at most the queues of the ports it is for (R193). -/
theorem floorStep_notify (x : Sect) (ports : List Port) (n : Notice) (s : State) :
    FloorStep x s (s.notify ports n) := by
  unfold State.notify
  induction ports generalizing s with
  | nil => exact .rfl' _ _
  | cons p rest ih => exact (floorStep_modPort x s p n).trans (ih _)

/-- A notice writes nothing but port records. -/
theorem notify_eq (ports : List Port) (n : Notice) (s : State) :
    ∃ a b c d, s.notify ports n = { s with cpa := a, cpb := b, scp := c, mdp := d } := by
  unfold State.notify
  induction ports generalizing s with
  | nil => exact ⟨s.cpa, s.cpb, s.scp, s.mdp, rfl⟩
  | cons p rest ih =>
    obtain ⟨a, b, c, d, h⟩ := ih (s.modPort p (joinQueue n))
    refine ⟨a, b, c, d, h.trans ?_⟩
    cases p <;> rfl

@[simp] theorem notify_pending (ports : List Port) (n : Notice) (s : State) : (s.notify ports n).pending = s.pending := by
  obtain ⟨a, b, c, d, h⟩ := notify_eq ports n s
  rw [h]

@[simp] theorem notify_starting (ports : List Port) (n : Notice) (s : State) : (s.notify ports n).starting = s.starting := by
  obtain ⟨a, b, c, d, h⟩ := notify_eq ports n s
  rw [h]

@[simp] theorem notify_seats (ports : List Port) (n : Notice) (s : State) : (s.notify ports n).seats = s.seats := by
  obtain ⟨a, b, c, d, h⟩ := notify_eq ports n s
  rw [h]

@[simp] theorem notify_north (ports : List Port) (n : Notice) (s : State) : (s.notify ports n).north = s.north := by
  obtain ⟨a, b, c, d, h⟩ := notify_eq ports n s
  rw [h]

@[simp] theorem notify_south (ports : List Port) (n : Notice) (s : State) : (s.notify ports n).south = s.south := by
  obtain ⟨a, b, c, d, h⟩ := notify_eq ports n s
  rw [h]

@[simp] theorem notify_mode (ports : List Port) (n : Notice) (s : State) : (s.notify ports n).mode = s.mode := by
  obtain ⟨a, b, c, d, h⟩ := notify_eq ports n s
  rw [h]

@[simp] theorem notify_k (ports : List Port) (n : Notice) (s : State) : (s.notify ports n).k = s.k := by
  obtain ⟨a, b, c, d, h⟩ := notify_eq ports n s
  rw [h]

@[simp] theorem notify_defMode (ports : List Port) (n : Notice) (s : State) : (s.notify ports n).defMode = s.defMode := by
  obtain ⟨a, b, c, d, h⟩ := notify_eq ports n s
  rw [h]

@[simp] theorem notify_lead (ports : List Port) (n : Notice) (s : State) : (s.notify ports n).lead = s.lead := by
  obtain ⟨a, b, c, d, h⟩ := notify_eq ports n s
  rw [h]

@[simp] theorem notify_secA (ports : List Port) (n : Notice) (s : State) : (s.notify ports n).secA = s.secA := by
  obtain ⟨a, b, c, d, h⟩ := notify_eq ports n s
  rw [h]

@[simp] theorem notify_secB (ports : List Port) (n : Notice) (s : State) : (s.notify ports n).secB = s.secB := by
  obtain ⟨a, b, c, d, h⟩ := notify_eq ports n s
  rw [h]

@[simp] theorem notify_minute (ports : List Port) (n : Notice) (s : State) : (s.notify ports n).minute = s.minute := by
  obtain ⟨a, b, c, d, h⟩ := notify_eq ports n s
  rw [h]

@[simp] theorem notify_second (ports : List Port) (n : Notice) (s : State) : (s.notify ports n).second = s.second := by
  obtain ⟨a, b, c, d, h⟩ := notify_eq ports n s
  rw [h]

@[simp] theorem notify_bookings (ports : List Port) (n : Notice) (s : State) : (s.notify ports n).bookings = s.bookings := by
  obtain ⟨a, b, c, d, h⟩ := notify_eq ports n s
  rw [h]

@[simp] theorem notify_lastId (ports : List Port) (n : Notice) (s : State) : (s.notify ports n).lastId = s.lastId := by
  obtain ⟨a, b, c, d, h⟩ := notify_eq ports n s
  rw [h]

@[simp] theorem notify_freezeF (ports : List Port) (n : Notice) (s : State) : (s.notify ports n).freezeF = s.freezeF := by
  obtain ⟨a, b, c, d, h⟩ := notify_eq ports n s
  rw [h]

@[simp] theorem notify_guardG (ports : List Port) (n : Notice) (s : State) : (s.notify ports n).guardG = s.guardG := by
  obtain ⟨a, b, c, d, h⟩ := notify_eq ports n s
  rw [h]

@[simp] theorem notify_place (ports : List Port) (n : Notice) (s : State) : (s.notify ports n).place = s.place := by
  obtain ⟨a, b, c, d, h⟩ := notify_eq ports n s
  rw [h]

@[simp] theorem notify_out1 (ports : List Port) (n : Notice) (s : State) : (s.notify ports n).out1 = s.out1 := by
  obtain ⟨a, b, c, d, h⟩ := notify_eq ports n s
  rw [h]

@[simp] theorem notify_out2 (ports : List Port) (n : Notice) (s : State) : (s.notify ports n).out2 = s.out2 := by
  obtain ⟨a, b, c, d, h⟩ := notify_eq ports n s
  rw [h]

@[simp] theorem notify_present (ports : List Port) (n : Notice) (s : State) : (s.notify ports n).present = s.present := by
  obtain ⟨a, b, c, d, h⟩ := notify_eq ports n s
  rw [h]

@[simp] theorem notify_pollMiss (ports : List Port) (n : Notice) (s : State) : (s.notify ports n).pollMiss = s.pollMiss := by
  obtain ⟨a, b, c, d, h⟩ := notify_eq ports n s
  rw [h]

@[simp] theorem notify_polled (ports : List Port) (n : Notice) (s : State) : (s.notify ports n).polled = s.polled := by
  obtain ⟨a, b, c, d, h⟩ := notify_eq ports n s
  rw [h]

@[simp] theorem notify_screens (ports : List Port) (n : Notice) (s : State) : (s.notify ports n).screens = s.screens := by
  obtain ⟨a, b, c, d, h⟩ := notify_eq ports n s
  rw [h]

@[simp] theorem notify_profiles (ports : List Port) (n : Notice) (s : State) : (s.notify ports n).profiles = s.profiles := by
  obtain ⟨a, b, c, d, h⟩ := notify_eq ports n s
  rw [h]

@[simp] theorem notify_stored (ports : List Port) (n : Notice) (s : State) : (s.notify ports n).stored = s.stored := by
  obtain ⟨a, b, c, d, h⟩ := notify_eq ports n s
  rw [h]

@[simp] theorem notify_write (ports : List Port) (n : Notice) (s : State) : (s.notify ports n).write = s.write := by
  obtain ⟨a, b, c, d, h⟩ := notify_eq ports n s
  rw [h]

@[simp] theorem notify_tablePending (ports : List Port) (n : Notice) (s : State) : (s.notify ports n).tablePending = s.tablePending := by
  obtain ⟨a, b, c, d, h⟩ := notify_eq ports n s
  rw [h]

@[simp] theorem seat_notify (ports : List Port) (n : Notice) (s : State) (j : Seat) :
    (s.notify ports n).seat j = s.seat j := by
  obtain ⟨a, b, c, d, h⟩ := notify_eq ports n s
  rw [h]
  rfl

@[simp] theorem sect_notify (ports : List Port) (n : Notice) (s : State) (j : Sect) :
    (s.notify ports n).sect j = s.sect j := by
  obtain ⟨a, b, c, d, h⟩ := notify_eq ports n s
  rw [h]
  cases j <;> rfl

@[simp] theorem screen_notify (ports : List Port) (n : Notice) (s : State) (j : ScreenNo) :
    (s.notify ports n).screen j = s.screen j := by
  obtain ⟨a, b, c, d, h⟩ := notify_eq ports n s
  rw [h]
  rfl

@[simp] theorem ring_notify (ports : List Port) (n : Notice) (s : State) (j : Side) :
    (s.notify ports n).ring j = s.ring j := by
  obtain ⟨a, b, c, d, h⟩ := notify_eq ports n s
  rw [h]
  cases j <;> rfl


end Sys2Proof.Machine
end

