-- ==== Sys2Proof/Laws/Floor.lean ====
section
/-! SUPPORT. Every operation of the floor controller, and an event at the floor as one whole, is a step at the floor
of its section. -/

set_option autoImplicit false

namespace Sys2Proof.Machine

variable (s : State) (x : Sect) (i : Seat)

/-! ### Notices and seat updates -/

theorem floorStep_floorNotice (c : FloorChange) (why : FloorReason) (before : Mic) :
    FloorStep x s (s.floorNotice i c why before) := floorStep_notify _ _ _ _

theorem floorStep_turnNotice (e : TurnEvent) (added : Option Nat) : FloorStep x s (s.turnNotice i e added) :=
  floorStep_notify _ _ _ _

theorem floorStep_queueNotice (y : Sect) (seat : Option Seat) (c : QueueChange) (why : QueueReason)
    (cause : Option RefusalCause) (e : Option QEntry) (place : Option Nat) :
    FloorStep x s (s.queueNotice y seat c why cause e place) := floorStep_notify _ _ _ _

/-- A change of one seat's floor part, by a seat of the section. -/
theorem floorStep_seat (hi : s.sectionOf i = x) (f : SeatRec → SeatRec) (hu : SameUnit (s.seat i) (f (s.seat i)))
    (hc : (f (s.seat i)).cumul = (s.seat i).cumul) : FloorStep x s (s.modSeat i f) := by
  subst hi
  exact floorStep_modSeat s i f hu hc

@[simp] theorem sectionOf_notify (ports : List Port) (n : Notice) (j : Seat) :
    (s.notify ports n).sectionOf j = s.sectionOf j := (floorStep_notify .a ports n s).frame.base.sectionOf j

theorem FloorStep.sectionOf {x : Sect} {s t : State} (h : FloorStep x s t) (j : Seat) :
    t.sectionOf j = s.sectionOf j := h.frame.base.sectionOf j

/-! ### Grants and closes -/

theorem floorStep_takeStamp (hi : s.sectionOf i = x) : FloorStep x s (s.takeStamp i) := by
  unfold State.takeStamp
  have h := floorStep_seat s x i hi (fun r => { r with stamp := some (s.sect (s.sectionOf i)).stampCtr })
    (by constructor <;> rfl) rfl
  subst hi
  exact h.trans (floorStep_modSect _ _ _ (.inl rfl))

theorem floorStep_turnStarts (hi : s.sectionOf i = x) : FloorStep x s (s.turnStarts i) := by
  unfold State.turnStarts
  split
  · have h := floorStep_seat s x i hi (fun r => { r with turn := some (startTurn
      ((s.sect (s.sectionOf i)).settings.budget * 10) (s.sect (s.sectionOf i)).settings.warn) })
      (by constructor <;> rfl) rfl
    dsimp only
    split
    · exact h.trans (floorStep_turnNotice _ _ _ _ _)
    · exact h
  · exact .rfl' _ _

theorem floorStep_followSpeaker : FloorStep x s (s.followSpeaker i) := by
  unfold State.followSpeaker
  dsimp only
  repeat' split
  all_goals first
    | exact floorStep_presenter _ _ _ _
    | exact .rfl' _ _

theorem floorStep_opened (hi : s.sectionOf i = x) (why : FloorReason) (before : Mic) :
    FloorStep x s (s.opened i why before) := by
  unfold State.opened
  have h1 := floorStep_floorNotice s x i .opened why before
  have h2 := h1.trans (floorStep_turnStarts _ x i (by rw [h1.sectionOf, hi]))
  exact h2.trans (floorStep_followSpeaker _ _ _)

theorem floorStep_grant (hi : s.sectionOf i = x) (why : FloorReason) : FloorStep x s (s.grant i why) := by
  unfold State.grant
  have h1 := floorStep_takeStamp s x i hi
  have hi1 : (s.takeStamp i).sectionOf i = x := by rw [h1.sectionOf, hi]
  dsimp only
  split
  · split
    · next k _ =>
      have h2 := h1.trans (floorStep_seat _ x i hi1
        (fun r => { r with mic := .active, slot := some k, ramp := 0 }) (by constructor <;> rfl) rfl)
      exact h2.trans (floorStep_opened _ x i (by rw [h2.sectionOf, hi]) _ _)
    · have h2 := h1.trans (floorStep_seat _ x i hi1 (fun r => { r with mic := .pending })
        (by constructor <;> rfl) rfl)
      exact h2.trans (floorStep_floorNotice _ _ _ _ _ _)
  · have h2 := h1.trans (floorStep_seat _ x i hi1 (fun r => { r with mic := .active, fadeReport := none })
      (by constructor <;> rfl) rfl)
    exact h2.trans (floorStep_opened _ x i (by rw [h2.sectionOf, hi]) _ _)
  all_goals exact .rfl' _ _

theorem floorStep_close (hi : s.sectionOf i = x) (why : FloorReason) : FloorStep x s (s.close i why) := by
  have shut (m : Mic) : FloorStep x s (s.modSeat i fun r =>
      { r with mic := m, stamp := none, byPriority := false, turn := none }) :=
    floorStep_seat s x i hi _ (by constructor <;> rfl) rfl
  unfold State.close
  dsimp only
  split
  all_goals first
    | exact .rfl' _ _
    | exact (shut _).trans (floorStep_floorNotice _ _ _ _ _ _)

/-- Folding steps over seats of the section. -/
theorem floorStep_overSeats (f : Seat → State → State) (l : List Seat) (hl : ∀ i, i ∈ l → s.sectionOf i = x)
    (hf : ∀ (i : Seat) (t : State), t.sectionOf i = x → FloorStep x t (f i t)) :
    FloorStep x s (overSeats f l s) := by
  unfold overSeats
  induction l generalizing s with
  | nil => exact .rfl' _ _
  | cons j rest ih =>
    have h1 := hf j s (hl j (by simp))
    refine h1.trans (ih _ fun i hi => ?_)
    rw [h1.sectionOf]
    exact hl i (by simp [hi])

theorem mem_seatsWhere (f : SeatRec → Bool) : i ∈ s.seatsWhere x f ↔ s.sectionOf i = x ∧ f (s.seat i) = true := by
  simp [State.seatsWhere, State.seatsOf, seatList, and_comm]

theorem sectionOf_of_mem (f : SeatRec → Bool) (h : i ∈ s.seatsWhere x f) : s.sectionOf i = x :=
  ((mem_seatsWhere s x i f).1 h).1

theorem floorStep_closeAll (why : FloorReason) (l : List Seat) (hl : ∀ i, i ∈ l → s.sectionOf i = x) :
    FloorStep x s (closeAll why l s) :=
  floorStep_overSeats s x _ l hl fun i t hi => floorStep_close t x i hi why

theorem floorStep_serve (hi : s.sectionOf i = x) (k : Nat) : FloorStep x s (s.serve i k) := by
  unfold State.serve
  have h := floorStep_seat s x i hi (fun r => { r with mic := .active, slot := some k, ramp := 0 })
    (by constructor <;> rfl) rfl
  exact h.trans (floorStep_opened _ x i (by rw [h.sectionOf, hi]) _ _)

/-! ### The arbiter -/

theorem oldest_mem (l : List Seat) (h : s.oldest l = some i) : i ∈ l := by
  induction l generalizing i with
  | nil => simp [State.oldest] at h
  | cons j rest ih =>
    unfold State.oldest at h
    split at h
    · simp at h; simp [h]
    · next k hk =>
      split at h <;> simp at h
      · subst h; simp [ih _ hk]
      · subst h; simp

theorem nextPending_sectionOf (h : s.nextPending x = some i) : s.sectionOf i = x := by
  unfold State.nextPending at h
  split at h
  · next j hj =>
    simp at h; subst h
    exact sectionOf_of_mem s x _ _ (oldest_mem s _ _ hj)
  · split at h
    · simp at h
    · exact sectionOf_of_mem s x _ _ (oldest_mem s _ _ h)

theorem floorStep_arbiter (fuel : Nat) : FloorStep x s (State.arbiter fuel x s) := by
  induction fuel generalizing s with
  | zero => exact .rfl' _ _
  | succ n ih =>
    unfold State.arbiter
    split
    · next k i hk hi => exact (floorStep_serve s x i (nextPending_sectionOf s x i hi) k).trans (ih _)
    · exact .rfl' _ _

/-! ### The queue -/

theorem floorStep_removeEntry (why : QueueReason) : FloorStep x s (s.removeEntry x i why) := by
  unfold State.removeEntry
  split
  · exact .rfl' _ _
  · exact (floorStep_modSect x s _ (.inl rfl)).trans (floorStep_queueNotice _ _ _ _ _ _ _ _ _)

theorem floorStep_addEntry : FloorStep x s (s.addEntry x i) :=
  (floorStep_modSect x s _ (.inl rfl)).trans (floorStep_queueNotice _ _ _ _ _ _ _ _ _)

theorem floorStep_clearQueue (why : QueueReason) : FloorStep x s (s.clearQueue x why) :=
  (floorStep_modSect x s _ (.inl rfl)).trans (floorStep_queueNotice _ _ _ _ _ _ _ _ _)

theorem floorStep_denial : FloorStep x s (s.denial i) := by
  unfold State.denial
  refine floorStep_seats _ _ _ rfl (fun j => ?_) (fun j => ?_) (fun j _ => ?_)
  all_goals rw [seat_modSeat]; split
  · next h => subst h; split <;> constructor <;> rfl
  · exact .rfl' _
  · next h => subst h; split <;> rfl
  · rfl
  · next h => subst h; split <;> constructor <;> rfl
  · exact .rfl' _

theorem floorStep_refuse (cause : RefusalCause) : FloorStep x s (s.refuse x i cause) :=
  (floorStep_denial s x i).trans (floorStep_queueNotice _ _ _ _ _ _ _ _ _)

/-! ### What grants and closes leave of the sections -/

/-- A section record with its presenter and stamp counter left out. -/
def SectRec.rest (r : SectRec) : SectRec := { r with presenter := none, stampCtr := 0 }

/-- Two states whose section records differ at most in presenters and stamp counters. -/
def SameSects (s t : State) : Prop := ∀ y, (t.sect y).rest = (s.sect y).rest

theorem SameSects.rfl' (s : State) : SameSects s s := fun _ => rfl

theorem SameSects.trans {s t u : State} (h : SameSects s t) (k : SameSects t u) : SameSects s u :=
  fun y => (k y).trans (h y)

theorem SameSects.of_eq {s t : State} (h : ∀ y, t.sect y = s.sect y) : SameSects s t := fun y => by rw [h y]

theorem SameSects.queue {s t : State} (h : SameSects s t) (y : Sect) : (t.sect y).queue = (s.sect y).queue :=
  by
  have := congrArg SectRec.queue (h y)
  exact this

theorem SameSects.state {s t : State} (h : SameSects s t) (y : Sect) : (t.sect y).state = (s.sect y).state :=
  by
  have := congrArg SectRec.state (h y)
  exact this

theorem SameSects.settings {s t : State} (h : SameSects s t) (y : Sect) :
    (t.sect y).settings = (s.sect y).settings := by
  have := congrArg SectRec.settings (h y)
  exact this

theorem SameSects.holders {s t : State} (h : SameSects s t) (y : Sect) :
    (t.sect y).holders = (s.sect y).holders := by
  have := congrArg SectRec.holders (h y)
  exact this

theorem SameSects.console {s t : State} (h : SameSects s t) (y : Sect) :
    (t.sect y).console = (s.sect y).console := by
  have := congrArg SectRec.console (h y)
  exact this

theorem sameSects_presenter (y : Sect) (p : Option (Seat × Origin)) :
    SameSects s (s.modSect y fun r => { r with presenter := p }) := by
  intro z
  rw [sect_modSect]
  split
  · next h => subst h; rfl
  · rfl

theorem sameSects_floorNotice (c : FloorChange) (why : FloorReason) (before : Mic) :
    SameSects s (s.floorNotice i c why before) := .of_eq fun y => by simp [State.floorNotice]

theorem sameSects_opened (why : FloorReason) (before : Mic) : SameSects s (s.opened i why before) := by
  unfold State.opened
  refine (sameSects_floorNotice s i .opened why before).trans
    (SameSects.trans (t := (s.floorNotice i .opened why before).turnStarts i) ?_ ?_)
  · refine .of_eq fun y => ?_
    unfold State.turnStarts State.turnNotice
    dsimp only
    split
    · split <;> simp
    · rfl
  · unfold State.followSpeaker
    dsimp only
    repeat' split
    all_goals first
      | exact sameSects_presenter _ _ _
      | exact .rfl' _

theorem sameSects_takeStamp : SameSects s (s.takeStamp i) := by
  unfold State.takeStamp
  intro y
  dsimp only
  rw [sect_modSect]
  split
  · next h => subst h; simp; rfl
  · simp

theorem sameSects_grant (why : FloorReason) : SameSects s (s.grant i why) := by
  unfold State.grant
  dsimp only
  split
  · split
    · refine (sameSects_takeStamp s i).trans (SameSects.trans ?_ (sameSects_opened _ i why _))
      exact .of_eq fun y => by simp
    · refine (sameSects_takeStamp s i).trans (SameSects.trans ?_ (sameSects_floorNotice _ i _ why _))
      exact .of_eq fun y => by simp
  · refine (sameSects_takeStamp s i).trans (SameSects.trans ?_ (sameSects_opened _ i why _))
    exact .of_eq fun y => by simp
  all_goals exact .rfl' _

theorem sameSects_close (why : FloorReason) : SameSects s (s.close i why) := by
  unfold State.close
  dsimp only
  split
  all_goals first
    | exact .rfl' _
    | exact SameSects.trans (.of_eq fun y => by simp) (sameSects_floorNotice _ i _ why _)

theorem sameSects_serve (k : Nat) : SameSects s (s.serve i k) := by
  unfold State.serve
  refine SameSects.trans ?_ (sameSects_opened _ i _ _)
  exact .of_eq fun y => by simp

theorem sameSects_arbiter (fuel : Nat) : SameSects s (State.arbiter fuel x s) := by
  induction fuel generalizing s with
  | zero => exact .rfl' _
  | succ n ih =>
    unfold State.arbiter
    split
    · exact (sameSects_serve s _ _).trans (ih _)
    · exact .rfl' _

theorem sameSects_overSeats (f : Seat → State → State) (l : List Seat)
    (hf : ∀ (i : Seat) (t : State), SameSects t (f i t)) : SameSects s (overSeats f l s) := by
  unfold overSeats
  induction l generalizing s with
  | nil => exact .rfl' _
  | cons j rest ih => exact (hf j s).trans (ih _)

/-! ### The advance -/

/-- Every entry of the section's queue belongs to a seat of the section (R47). -/
def headsInside (x : Sect) (s : State) : Prop := ∀ e, e ∈ (s.sect x).queue → s.sectionOf e.seat = x

theorem removeEntry_queue (why : QueueReason) :
    ((s.removeEntry x i why).sect x).queue = (s.sect x).queue.filter fun e => e.seat ≠ i := by
  unfold State.removeEntry
  split
  · next h =>
    have : ∀ e, e ∈ (s.sect x).queue → e.seat ≠ i := by
      intro e he
      have := List.find?_eq_none.1 h e he
      simpa using this
    exact (List.filter_eq_self.2 fun e he => by simpa using this e he).symm
  · simp [State.queueNotice, dropEntry]

theorem headsInside.removeEntry {x : Sect} {s : State} (h : headsInside x s) (i : Seat) (why : QueueReason) :
    headsInside x (s.removeEntry x i why) := by
  intro e he
  rw [removeEntry_queue] at he
  rw [(floorStep_removeEntry s x i why).sectionOf]
  exact h e (List.mem_filter.1 he).1

theorem headsInside.of_same {x : Sect} {s t : State} (h : headsInside x s) (hq : SameSects s t)
    (hs : FloorStep x s t) : headsInside x t := by
  intro e he
  rw [hq.queue] at he
  rw [hs.sectionOf]
  exact h e he

theorem floorStep_advance (fuel : Nat) (h : headsInside x s) : FloorStep x s (State.advance fuel x s) := by
  induction fuel generalizing s with
  | zero => exact .rfl' _ _
  | succ n ih =>
    unfold State.advance
    split
    · split
      · exact .rfl' _ _
      · next e rest hq =>
        have he : s.sectionOf e.seat = x := h e (by rw [hq]; simp)
        split
        · have h1 := floorStep_removeEntry s x e.seat .cap
          have h2 := h1.trans (floorStep_denial _ x e.seat)
          refine h2.trans (ih _ ?_)
          refine (h.removeEntry e.seat .cap).of_same (.of_eq fun y => ?_) (floorStep_denial _ x e.seat)
          simp [State.denial]
        · have h1 := floorStep_removeEntry s x e.seat .granted
          have hg := floorStep_grant (s.removeEntry x e.seat .granted) x e.seat (by rw [h1.sectionOf, he]) .advance
          exact (h1.trans hg).trans
            (ih _ ((h.removeEntry e.seat .granted).of_same (sameSects_grant _ _ _) hg))
    · exact .rfl' _ _

end Sys2Proof.Machine
end

