-- ==== Sys2Proof/Laws/Events.lean ====
section
/-! SUPPORT. What an event as one whole can change: the recomposition and resolution that end it, keys, priority,
seat loss, the session's end and the event at the floor controller. Each is a `FloorMove` of its section: a step at
the floor that leaves every queue entry with a seat of the section. -/

set_option autoImplicit false

namespace Sys2Proof.Machine

variable (s : State) (x : Sect) (i : Seat)

/-! ### Moves compose -/

/-- A step at the floor of section x that keeps the section's queue to seats of the section. -/
structure FloorMove (x : Sect) (s t : State) : Prop where
  step : FloorStep x s t
  heads : headsInside x s → headsInside x t

theorem FloorMove.rfl' : FloorMove x s s := ⟨.rfl' x s, id⟩

theorem FloorMove.trans {x : Sect} {s t u : State} (h : FloorMove x s t) (k : FloorMove x t u) :
    FloorMove x s u := ⟨h.step.trans k.step, fun a => k.heads (h.heads a)⟩

theorem FloorMove.sectionOf {x : Sect} {s t : State} (h : FloorMove x s t) (j : Seat) :
    t.sectionOf j = s.sectionOf j := h.step.sectionOf j

/-- A step at the floor that keeps the section's queue is a move. -/
theorem FloorStep.move {x : Sect} {s t : State} (h : FloorStep x s t)
    (hq : (t.sect x).queue = (s.sect x).queue) : FloorMove x s t :=
  ⟨h, fun a e he => by rw [h.sectionOf]; exact a e (by rwa [← hq])⟩

/-- A step at the floor that empties the section's queue is a move. -/
theorem FloorStep.emptied {x : Sect} {s t : State} (h : FloorStep x s t) (hq : (t.sect x).queue = []) :
    FloorMove x s t := ⟨h, fun _ e he => by rw [hq] at he; simp at he⟩

theorem FloorStep.moveSame {x : Sect} {s t : State} (h : FloorStep x s t) (hq : SameSects s t) :
    FloorMove x s t := h.move (hq.queue x)

/-- A change of the section's record that keeps its booking and its queue. -/
theorem floorMove_modSect (f : SectRec → SectRec) (hb : (f (s.sect x)).booking = (s.sect x).booking)
    (hq : (f (s.sect x)).queue = (s.sect x).queue) : FloorMove x s (s.modSect x f) :=
  (floorStep_modSect x s f (.inl hb)).move (by simpa using hq)

/-- A change of one seat's floor part, by a seat of the section. -/
theorem floorMove_seat (hi : s.sectionOf i = x) (f : SeatRec → SeatRec) (hu : SameUnit (s.seat i) (f (s.seat i)))
    (hc : (f (s.seat i)).cumul = (s.seat i).cumul) : FloorMove x s (s.modSeat i f) :=
  (floorStep_seat s x i hi f hu hc).move (by simp)

theorem floorMove_notify (ports : List Port) (n : Notice) : FloorMove x s (s.notify ports n) :=
  (floorStep_notify x ports n s).move (by simp)

theorem floorMove_grant (hi : s.sectionOf i = x) (why : FloorReason) : FloorMove x s (s.grant i why) :=
  (floorStep_grant s x i hi why).moveSame (sameSects_grant s i why)

theorem floorMove_close (hi : s.sectionOf i = x) (why : FloorReason) : FloorMove x s (s.close i why) :=
  (floorStep_close s x i hi why).moveSame (sameSects_close s i why)

theorem floorMove_removeEntry (why : QueueReason) : FloorMove x s (s.removeEntry x i why) :=
  ⟨floorStep_removeEntry s x i why, fun h => h.removeEntry i why⟩

theorem floorMove_addEntry (hi : s.sectionOf i = x) : FloorMove x s (s.addEntry x i) := by
  refine ⟨floorStep_addEntry s x i, fun h e he => ?_⟩
  rw [(floorStep_addEntry s x i).sectionOf]
  simp only [State.addEntry, State.queueNotice, sect_notify, sect_modSect_self, List.mem_append,
    List.mem_singleton] at he
  rcases he with he | he
  · exact h e he
  · rw [he]; exact hi

theorem floorMove_clearQueue (why : QueueReason) : FloorMove x s (s.clearQueue x why) :=
  (floorStep_clearQueue s x why).emptied (by simp [State.clearQueue, State.queueNotice])

theorem floorMove_denial : FloorMove x s (s.denial i) :=
  (floorStep_denial s x i).move (by simp [State.denial])

theorem floorMove_refuse (cause : RefusalCause) : FloorMove x s (s.refuse x i cause) :=
  (floorStep_refuse s x i cause).move (by simp [State.refuse, State.queueNotice, State.denial])

theorem floorMove_arbiter (fuel : Nat) : FloorMove x s (State.arbiter fuel x s) :=
  (floorStep_arbiter s x fuel).moveSame (sameSects_arbiter s x fuel)

theorem floorMove_overSeats (f : Seat → State → State) (l : List Seat) (hl : ∀ i, i ∈ l → s.sectionOf i = x)
    (hf : ∀ (i : Seat) (t : State), t.sectionOf i = x → FloorMove x t (f i t)) :
    FloorMove x s (overSeats f l s) := by
  unfold overSeats
  induction l generalizing s with
  | nil => exact .rfl' _ _
  | cons j rest ih =>
    have h1 := hf j s (hl j (by simp))
    refine h1.trans (ih _ fun i hi => ?_)
    rw [h1.sectionOf]
    exact hl i (by simp [hi])

theorem floorMove_closeAll (why : FloorReason) (l : List Seat) (hl : ∀ i, i ∈ l → s.sectionOf i = x) :
    FloorMove x s (closeAll why l s) :=
  floorMove_overSeats s x _ l hl fun i t hi => floorMove_close t x i hi why

/-- An advance is a move of the section whose queue holds its own seats (R50). -/
theorem advance_move (fuel : Nat) (h : headsInside x s) : FloorMove x s (State.advance fuel x s) := by
  induction fuel generalizing s with
  | zero => exact .rfl' _ _
  | succ n ih =>
    unfold State.advance
    split
    · split
      · exact .rfl' _ _
      · next e rest hq =>
        have he : s.sectionOf e.seat = x := h e (by rw [hq]; simp)
        split
        · have h2 := (floorMove_removeEntry s x e.seat .cap).trans (floorMove_denial _ x e.seat)
          exact h2.trans (ih _ (h2.heads h))
        · have h1 := floorMove_removeEntry s x e.seat .granted
          have h2 := h1.trans (floorMove_grant _ x e.seat (by rw [h1.sectionOf, he]) .advance)
          exact h2.trans (ih _ (h2.heads h))
    · exact .rfl' _ _

/-! ### Requests and open attempts -/

theorem overrideSeat_sectionOf {j : Seat} (h : s.overrideSeat x = some j) : s.sectionOf j = x := by
  unfold State.overrideSeat at h
  split at h
  · exact sectionOf_of_mem s x _ _ (oldest_mem s _ _ h)
  · simp at h

theorem floorMove_enqueue (hi : s.sectionOf i = x) : FloorMove x s (s.enqueue x i) := by
  unfold State.enqueue
  split
  · exact floorMove_addEntry s x i hi
  · exact floorMove_refuse s x i _

theorem floorMove_request (hi : s.sectionOf i = x) : FloorMove x s (s.request x i) := by
  unfold State.request
  dsimp only
  split
  · exact floorMove_refuse s x i _
  split
  · exact floorMove_refuse s x i _
  split
  · exact floorMove_enqueue s x i hi
  split
  · split
    · exact floorMove_grant s x i hi _
    · split
      · next j hj =>
        have h1 := floorMove_close s x j (overrideSeat_sectionOf s x hj) .overridden
        exact h1.trans (floorMove_grant _ x i (by rw [h1.sectionOf, hi]) _)
      · exact floorMove_enqueue s x i hi
  · split
    · exact floorMove_grant s x i hi _
    · exact floorMove_enqueue s x i hi
  · exact floorMove_enqueue s x i hi

theorem floorMove_openAttempt (hi : s.sectionOf i = x) : FloorMove x s (s.openAttempt x i) := by
  have take (t : State) (h : FloorMove x s t) (why : FloorReason) :
      FloorMove x s ((t.removeEntry x i .granted).grant i why) := by
    have h1 := h.trans (floorMove_removeEntry t x i .granted)
    exact h1.trans (floorMove_grant _ x i (by rw [h1.sectionOf, hi]) _)
  unfold State.openAttempt
  dsimp only
  split
  · exact floorMove_refuse s x i _
  split
  · exact floorMove_refuse s x i _
  split
  · exact floorMove_refuse s x i _
  split
  · exact floorMove_refuse s x i _
  · split
    · exact floorMove_refuse s x i _
    · split
      · exact take s (.rfl' _ _) _
      · exact floorMove_refuse s x i _
  · split
    · exact take s (.rfl' _ _) _
    · split
      · next j hj => exact take _ (floorMove_close s x j (overrideSeat_sectionOf s x hj) .overridden) _
      · exact floorMove_refuse s x i _

/-! ### Priority -/

theorem floorMove_suspend (hi : s.sectionOf i = x) : FloorMove x s (s.suspend i) :=
  (floorMove_seat s x i hi _ (by constructor <;> rfl) rfl).trans (floorMove_notify _ _ _ _)

theorem floorMove_resume (hi : s.sectionOf i = x) : FloorMove x s (s.resume i) :=
  (floorMove_seat s x i hi _ (by constructor <;> rfl) rfl).trans (floorMove_notify _ _ _ _)

theorem floorMove_endPriority : FloorMove x s (s.endPriority x) := by
  unfold State.endPriority
  split
  · exact floorMove_overSeats s x _ _ (fun j hj => sectionOf_of_mem s x j _ hj) fun j t hj =>
      floorMove_resume t x j hj
  · exact floorMove_closeAll s x _ _ fun j hj => sectionOf_of_mem s x j _ hj

theorem floorMove_startPriority : FloorMove x s (s.startPriority x) :=
  floorMove_overSeats s x _ _ (fun j hj => sectionOf_of_mem s x j _ hj) fun j t hj => floorMove_suspend t x j hj

theorem floorMove_openByPriority (hi : s.sectionOf i = x) : FloorMove x s (s.openByPriority i) := by
  have h1 := floorMove_grant s x i hi .priority
  have h2 := h1.trans (floorMove_seat _ x i (by rw [h1.sectionOf, hi]) (fun r => { r with byPriority := true })
    (by constructor <;> rfl) rfl)
  unfold State.openByPriority
  split
  all_goals first
    | exact h2
    | exact .rfl' _ _

/-- A member joining the holder set moves the section alone (R77). -/
theorem floorMove_joinHolders (h : Holder) (hi : ∀ j, h = .chair j → s.sectionOf j = x) :
    FloorMove x s (s.joinHolders x h) := by
  unfold State.joinHolders
  split
  · exact .rfl' _ _
  · have h1 : FloorMove x s (s.modSect x (addHolder h)) := by
      refine floorMove_modSect s x _ ?_ ?_ <;> cases h <;> rfl
    dsimp only
    generalize he : (if s.priorityOn x = true then s.modSect x (addHolder h)
      else (s.modSect x (addHolder h)).startPriority x) = t
    have h2 : FloorMove x s t := by
      rw [← he]
      split
      · exact h1
      · exact h1.trans (floorMove_startPriority _ _)
    split
    · next j _ => exact h2.trans (floorMove_openByPriority _ x j (by rw [h2.sectionOf]; exact hi j rfl))
    · exact h2

/-- A member leaving the holder set moves the section alone (R78, R79). -/
theorem floorMove_leaveHolders (h : Holder) (hi : ∀ j, h = .chair j → s.sectionOf j = x) :
    FloorMove x s (s.leaveHolders x h) := by
  unfold State.leaveHolders
  split
  · have h1 : FloorMove x s (s.modSect x (dropHolder h)) := by
      refine floorMove_modSect s x _ ?_ ?_ <;> cases h <;> rfl
    have fin (t : State) (h2 : FloorMove x s t) :
        FloorMove x s (if t.priorityOn x = true then t else t.endPriority x) := by
      split
      · exact h2
      · exact h2.trans (floorMove_endPriority _ _)
    refine fin _ ?_
    split
    · next j _ =>
      split
      · exact h1.trans (floorMove_close _ x j (by rw [h1.sectionOf]; exact hi j rfl) _)
      · exact h1
    · exact h1
  · exact .rfl' _ _

/-! ### Keys and seat loss -/

theorem floorMove_delegatePress (hi : s.sectionOf i = x) : FloorMove x s (s.delegatePress x i) := by
  unfold State.delegatePress
  dsimp only
  split
  all_goals repeat' split
  all_goals first
    | exact .rfl' _ _
    | exact floorMove_request s x i hi
    | exact floorMove_close s x i hi _
    | exact floorMove_removeEntry s x i _
    | exact floorMove_openAttempt s x i hi

theorem floorMove_delegateRelease (hi : s.sectionOf i = x) : FloorMove x s (s.delegateRelease x i) := by
  unfold State.delegateRelease
  split
  all_goals first
    | exact .rfl' _ _
    | exact floorMove_close s x i hi _

theorem floorMove_chairPress (hi : s.sectionOf i = x) : FloorMove x s (s.chairPress i) := by
  have h1 := floorMove_seat s x i hi (fun r => { r with byPriority := false }) (by constructor <;> rfl) rfl
  have hi1 : (s.modSeat i fun r => { r with byPriority := false }).sectionOf i = x := by rw [h1.sectionOf, hi]
  unfold State.chairPress
  dsimp only
  split
  all_goals first
    | exact h1
    | exact h1.trans (floorMove_grant _ x i hi1 _)
    | exact h1.trans (floorMove_close _ x i hi1 _)

/-- A key event acted on in an open section moves that section alone (R36). -/
theorem floorMove_keyAction (hi : s.sectionOf i = x) (e : KeyEvent) : FloorMove x s (s.keyAction x i e) := by
  have hj : ∀ j, Holder.chair i = .chair j → s.sectionOf j = x := by
    intro j h; cases h; exact hi
  unfold State.keyAction
  split
  · cases e
    · exact floorMove_chairPress s x i hi
    · exact .rfl' _ _
    · exact floorMove_joinHolders s x _ hj
    · exact floorMove_leaveHolders s x _ hj
  · split
    · cases e
      · exact floorMove_delegatePress s x i hi
      · exact floorMove_delegateRelease s x i hi
      · exact .rfl' _ _
      · exact .rfl' _ _
    · exact .rfl' _ _

/-- The floor controller's part of a seat's loss moves its section alone (R80). -/
theorem floorMove_loseSeat (hi : s.sectionOf i = x) : FloorMove x s (s.loseSeat x i) := by
  have h1 := floorMove_seat s x i hi lostMic (by constructor <;> rfl) rfl
  unfold State.loseSeat
  dsimp only
  generalize he : (if (s.seat i).mic.onFloor = true then
    (s.modSeat i lostMic).floorNotice i .closed .lost (s.seat i).mic else s.modSeat i lostMic) = t
  have h2 : FloorMove x s t := by
    rw [← he]
    split
    · exact h1.trans (floorMove_notify _ _ _ _)
    · exact h1
  have h3 := h2.trans (floorMove_leaveHolders t x (.chair i) fun j h => by cases h; rw [h2.sectionOf, hi])
  exact h3.trans (floorMove_removeEntry _ _ _ _)

/-! ### Presenters, timers and the session's state -/

theorem floorMove_presenter (y : Sect) (p : Option (Seat × Origin)) :
    FloorMove x s (s.modSect y fun r => { r with presenter := p }) :=
  (floorStep_presenter x y s p).moveSame (sameSects_presenter s y p)

theorem floorMove_checkPresenters : FloorMove x s s.checkPresenters := by
  have one (t : State) (y : Sect) : FloorMove x t (t.checkPresenter y) := by
    unfold State.checkPresenter
    split
    · exact .rfl' _ _
    · exact floorMove_presenter _ _ _ _
  exact (one s .a).trans (one _ .b)

theorem floorMove_startIdle : FloorMove x s (s.startIdle x) := by
  unfold State.startIdle
  split
  · exact floorMove_modSect s x _ rfl rfl
  · exact .rfl' _ _

theorem floorMove_retriggerIdle : FloorMove x s (s.retriggerIdle x) := by
  unfold State.retriggerIdle
  dsimp only
  split
  · exact floorMove_modSect s x _ rfl rfl
  · exact .rfl' _ _

theorem floorMove_settleIdle (was : Bool) : FloorMove x s (s.settleIdle x was) := by
  unfold State.settleIdle
  dsimp only
  repeat' split
  all_goals first
    | exact .rfl' _ _
    | exact floorMove_startIdle _ _
    | exact floorMove_modSect s x _ rfl rfl

theorem floorMove_enterOpen (why : SessionReason) (source : Option CheckInSource) (seat : Option Seat) :
    FloorMove x s (s.enterOpen x why source seat) := by
  unfold State.enterOpen
  dsimp only
  refine (floorMove_modSect s x (fun r =>
    { r with state := if s.endingDue x = true then .ending else .session, grace := .stopped, idle := .stopped })
    rfl rfl).trans ?_
  exact (floorMove_notify _ _ _ _).trans (floorMove_startIdle _ _)

theorem floorMove_checkIn (source : CheckInSource) (seat : Option Seat) : FloorMove x s (s.checkIn x source seat) :=
  floorMove_enterOpen s x _ _ _

theorem floorMove_switchEnding (after : SectState) (why : SessionReason) :
    FloorMove x s (s.switchEnding x after why) :=
  (floorMove_modSect s x _ rfl rfl).trans (floorMove_notify _ _ _ _)

theorem floorMove_testWarning : FloorMove x s (s.testWarning x) := by
  unfold State.testWarning
  split
  · exact floorMove_switchEnding _ _ _ _
  · exact .rfl' _ _

theorem floorMove_testEnding (why : SessionReason) : FloorMove x s (s.testEnding x why) := by
  unfold State.testEnding
  repeat' split
  all_goals first
    | exact .rfl' _ _
    | exact floorMove_switchEnding _ _ _ _

theorem floorMove_endChanged : FloorMove x s (s.endChanged x) := by
  unfold State.endChanged
  repeat' split
  all_goals first
    | exact .rfl' _ _
    | exact floorMove_enterOpen _ _ _ _ _
    | exact floorMove_testEnding _ _ _

theorem floorMove_enterOverrun : FloorMove x s (s.enterOverrun x) := by
  have tail (t : State) : FloorMove x t ((closeAll .overrun
      (t.seatsWhere x fun r => r.isDelegate && r.mic = .pending) t).clearQueue x .overrun) :=
    (floorMove_closeAll t x _ _ fun j hj => sectionOf_of_mem _ x j _ hj).trans (floorMove_clearQueue _ _ _)
  unfold State.enterOverrun
  dsimp only
  refine FloorMove.trans ?_ (tail _)
  exact (floorMove_modSect s x (fun r => { r with state := .overrun, idle := .stopped }) rfl rfl).trans
    (floorMove_notify _ _ _ _)

/-! ### The session's end -/

theorem floorMove_closeFloor : FloorMove x s (s.closeFloor x) := by
  unfold State.closeFloor
  dsimp only
  refine (floorMove_closeAll s x .ended (s.seatsWhere x fun r => r.mic.onFloor)
    fun j hj => sectionOf_of_mem s x j _ hj).trans ?_
  exact (floorMove_modSect _ x _ rfl rfl).trans (floorMove_clearQueue _ _ _)

theorem floorMove_dropParts : FloorMove x s (s.dropParts x) := by
  have h : FloorStep x s (s.dropParts x) := by
    refine floorStep_seats x s _ (by simp only [State.dropParts, State.mapSeats]) (fun j => ?_) (fun j => ?_)
      (fun j hj => ?_)
    all_goals simp only [State.dropParts, seat_mapSeats]
    · split <;> constructor <;> rfl
    · split <;> rfl
    · rw [if_neg hj]; exact .rfl' _
  exact h.move (by simp [State.dropParts])

/-- The booking that the section ran is taken off the list. -/
theorem FloorMove.dropBooking {x : Sect} {s t : State} (h : FloorMove x s t) {id : Nat}
    (hb : (s.sect x).booking = some id) : FloorMove x s (t.dropBooking id) := by
  have hf := h.step.frame
  refine ⟨⟨⟨?_, fun j => by simpa using hf.unit j, fun j hj => by simpa using hf.others j hj,
    fun j => by simpa using hf.cumul j, fun y hy => by simpa using hf.otherSect y hy, fun b hm => ?_,
    fun b hm hn => ?_, fun n => by simpa using hf.screens n⟩, by simpa using h.step.booking,
    fun q => by simpa using h.step.ports q⟩, fun a e he => ?_⟩
  · have := hf.base
    constructor
    all_goals first
      | exact this.pending | exact this.starting | exact this.north | exact this.south | exact this.mode
      | exact this.k | exact this.defMode | exact this.lead | exact this.minute | exact this.second
      | exact this.lastId | exact this.freezeF | exact this.guardG | exact this.place | exact this.steps | exact this.out1
      | exact this.out2 | exact this.present | exact this.pollMiss | exact this.polled | exact this.profiles
      | exact this.stored | exact this.write | exact this.tablePending
  · exact hf.bookings b (List.mem_filter.1 hm).1
  · refine List.mem_filter.2 ⟨hf.kept b hm hn, ?_⟩
    rw [hb] at hn
    have : b.id ≠ id := fun e => hn (by rw [e])
    simpa using this
  · exact h.heads a e (by simpa using he)

theorem runningBooking_id {b : Booking} (h : s.runningBooking x = some b) : (s.sect x).booking = some b.id := by
  unfold State.runningBooking at h
  split at h
  · simp at h
  · next id hid =>
    rw [hid]
    have := List.find?_some h
    simpa using Eq.symm (by simpa using this)

/-- The session ended, before its booking leaves the calendar. -/
theorem floorMove_freed (why : EndReason) : FloorMove x s
    ((((s.closeFloor x).dropParts x).modSect x (freeRecord .free ((s.closeFloor x).profiles[0]))).sessionNotice x
      (s.sect x).state why.session none none (s.runningBooking x)) := by
  have h1 := (floorMove_closeFloor s x).trans (floorMove_dropParts _ x)
  have h2 := h1.trans ((floorStep_modSect x ((s.closeFloor x).dropParts x)
    (freeRecord .free ((s.closeFloor x).profiles[0])) (.inr rfl)).emptied (by simp [freeRecord]))
  exact h2.trans (floorMove_notify _ _ _ _)

/-- A session's end moves its section alone, whatever ends it (R185). -/
theorem floorMove_endSession (why : EndReason) : FloorMove x s (s.endSession x why) := by
  have h3 := floorMove_freed s x why
  unfold State.endSession
  dsimp only
  refine FloorMove.trans ?_ (floorMove_checkPresenters _ x)
  generalize ((((s.closeFloor x).dropParts x).modSect x (freeRecord .free ((s.closeFloor x).profiles[0]))).sessionNotice
    x (s.sect x).state why.session none none (s.runningBooking x)) = t at h3 ⊢
  split
  · exact h3
  · next k hk =>
    have h4 := h3.dropBooking (runningBooking_id s x hk)
    split
    · exact h4
    · exact h4.trans (floorMove_notify _ _ _ _)

/-- A start ends a section's session only where that section runs a session whose booking shares a section with it. -/
theorem heldAgainst_running {b : Booking} {why : EndReason} (h : s.heldAgainst b x = some why) :
    (s.sect x).state.running = true ∧
      ∃ k, s.runningBooking x = some k ∧ spansShare k.span b.span = true := by
  unfold State.heldAgainst at h
  split at h
  · cases h
  rename_i k hk
  split at h
  · rename_i hs
    refine ⟨?_, k, hk, hs⟩
    split at h <;> simp_all [SectState.running]
  · cases h

/-- All that `endHeld` can do: nothing, or the end of the section's session. -/
theorem endHeld_cases (b : Booking) :
    s.endHeld b x = s ∨ ∃ why, s.heldAgainst b x = some why ∧ s.endHeld b x = s.endSession x why := by
  unfold State.endHeld
  split
  · exact .inr ⟨_, ‹_›, rfl⟩
  · exact .inl rfl

theorem floorMove_endHeld (b : Booking) : FloorMove x s (s.endHeld b x) := by
  obtain h | ⟨why, -, h⟩ := endHeld_cases s x b
  · rw [h]; exact .rfl' _ _
  · rw [h]; exact floorMove_endSession _ _ _

theorem floorMove_overrunBound : FloorMove x s (s.overrunBound x) := by
  unfold State.overrunBound
  split
  · exact floorMove_endSession _ _ _
  · exact .rfl' _ _

/-! ### The end of every event -/

/-- The recomposition and the resolution change what seats and screens show, and nothing else. -/
theorem refresh_eq : ∃ a b, a = s.recompose.seats ∧ s.refresh = { s with seats := a, screens := b } := by
  simp only [State.refresh, State.sendUpdates, State.resolveScreens, State.recompose, State.mapSeats]
  exact ⟨_, _, rfl, rfl⟩

theorem seat_refresh : s.refresh.seat i =
    if (s.seat i).presence = .ready then putPlate (s.composePlate i) (putRing (s.composeRing i) (s.seat i))
    else s.seat i := by
  obtain ⟨a, b, ha, h⟩ := refresh_eq s
  have : s.refresh.seat i = s.recompose.seat i := by
    rw [h]
    show a[i] = s.recompose.seats[i]
    rw [ha]
  rw [this]
  unfold State.recompose
  rw [seat_mapSeats]

@[simp] theorem sect_refresh (y : Sect) : s.refresh.sect y = s.sect y := by
  obtain ⟨a, b, -, h⟩ := refresh_eq s
  rw [h]
  cases y <;> rfl

@[simp] theorem port_refresh (q : Port) : s.refresh.port q = s.port q := by
  obtain ⟨a, b, -, h⟩ := refresh_eq s
  rw [h]
  cases q <;> rfl

@[simp] theorem ring_refresh (d : Side) : s.refresh.ring d = s.ring d := by
  obtain ⟨a, b, -, h⟩ := refresh_eq s
  rw [h]
  cases d <;> rfl

@[simp] theorem sectionOf_refresh (j : Seat) : s.refresh.sectionOf j = s.sectionOf j := by
  obtain ⟨a, b, -, h⟩ := refresh_eq s
  rw [h]
  rfl

theorem sameUnit_refresh : SameUnit (s.seat i) (s.refresh.seat i) := by
  rw [seat_refresh]
  unfold putPlate putRing
  repeat' split
  all_goals constructor <;> rfl

theorem sameFloor_refresh : SameFloor (s.seat i) (s.refresh.seat i) := by
  rw [seat_refresh]
  unfold putPlate putRing
  repeat' split
  all_goals constructor <;> rfl

theorem screen_refresh (n : ScreenNo) : s.refresh.screen n =
    if (putLayout (s.recompose.resolved n) (s.screen n)).due then
      sendUpdate (putLayout (s.recompose.resolved n) (s.screen n))
    else putLayout (s.recompose.resolved n) (s.screen n) := by
  have h : s.recompose.resolveScreens.screen n = putLayout (s.recompose.resolved n) (s.screen n) := by
    unfold State.resolveScreens State.screen
    simp [State.recompose, State.mapSeats]
  rw [← h]
  unfold State.refresh State.sendUpdates
  simp [State.screen]

theorem sameLink_refresh (n : ScreenNo) : SameLink (s.screen n) (s.refresh.screen n) := by
  rw [screen_refresh]
  unfold sendUpdate putLayout
  repeat' split
  all_goals constructor <;> rfl

theorem floorMove_refresh : FloorMove x s s.refresh := by
  obtain ⟨a, b, -, h⟩ := refresh_eq s
  refine FloorStep.move ⟨⟨?_, sameUnit_refresh s, fun j _ => sameFloor_refresh s j,
    fun j => (sameFloor_refresh s j).cumul, fun y _ => by rw [sect_refresh], fun b hb => ?_, fun b hb _ => ?_,
    sameLink_refresh s⟩, .inl (by rw [sect_refresh]), fun q => by rw [port_refresh]; exact .rfl' _⟩
    (by rw [sect_refresh])
  · rw [h]
    constructor <;> rfl
  · rw [h] at hb
    exact hb
  · rw [h]
    exact hb

/-! ### The event at the floor controller -/

/-- An event at the floor controller moves its section alone, where its own changes do (R36, R50, R67). -/
theorem floorMove_floorEvent (always : Bool) (body : State → State) (hb : FloorMove x s (body s))
    (h : headsInside x s) : FloorMove x s (s.floorEvent x always body) := by
  unfold State.floorEvent
  dsimp only
  have h1 := hb.trans (floorMove_arbiter (body s) x 8)
  refine FloorMove.trans ?_ ((floorMove_settleIdle _ x _).trans (floorMove_overrunBound _ x))
  split
  · exact h1.trans (advance_move _ x _ (h1.heads h))
  · exact h1

/-- A key event of a seat moves the seat's section alone (R18, R36). -/
theorem floorMove_keyEvent (e : KeyEvent) (h : headsInside (s.sectionOf i) s) :
    FloorMove (s.sectionOf i) s (s.keyEvent i e) := by
  have go (t : State) (ht : FloorMove (s.sectionOf i) s t) : FloorMove (s.sectionOf i) s
      (t.floorEvent (s.sectionOf i) false fun u => u.keyAction (s.sectionOf i) i e).refresh := by
    refine (ht.trans (floorMove_floorEvent t _ _ _ ?_ (ht.heads h))).trans (floorMove_refresh _ _)
    exact floorMove_keyAction t _ i (ht.sectionOf i) e
  unfold State.keyEvent
  dsimp only
  split
  · exact .rfl' _ _
  split
  · exact .rfl' _ _
  · exact .rfl' _ _
  · split
    · exact go _ (floorMove_checkIn _ _ _ _)
    · exact .rfl' _ _
  all_goals exact go _ (floorMove_retriggerIdle _ _)

end Sys2Proof.Machine
end

