-- ==== Sys2Proof/Laws/PerInstr.lean ====
section
/-! SUPPORT. A fact of the commands as syntax, one lemma per command: what a well-formed command that is a
request carries. -/

set_option autoImplicit false

namespace Sys2Proof.Laws

open Sys2Proof.Machine

/-- A well-formed command that is a request carries at most 250 payload bytes (R189), and a code of Table 12-3,
unless it is ILLEGAL. -/
def RequestCode.Statement (i : Instr) : Prop :=
  i.wellFormed = true → ∀ p code payload, request? i = some (p, code, payload) →
    payload.length ≤ 250 ∧ (tableCodes.contains code.toNat = true ∨ i = .illegal p code payload)

/-- A command that is no request satisfies the statement. -/
theorem requestCode_of_none {i : Instr} (h : request? i = none) : RequestCode.Statement i := by
  intro _ p code payload e
  rw [h] at e
  cases e

/-- A command whose well-formedness bounds its payload, and whose code is in the table, satisfies it. -/
theorem requestCode_of_code {i : Instr} {q : Port} {c : Byte} {l : List Byte} (h : request? i = some (q, c, l))
    (w : i.wellFormed = true → payloadFits l = true) (t : tableCodes.contains c.toNat = true)  :
    RequestCode.Statement i := by
  intro wf p code payload e
  rw [h] at e
  cases e
  exact ⟨by simpa [payloadFits] using w wf, .inl t⟩

theorem RequestCode.hardwareReset : RequestCode.Statement (.hardwareReset) := requestCode_of_none rfl

theorem RequestCode.startUpLoadComplete : RequestCode.Statement (.startUpLoadComplete) := requestCode_of_none rfl

theorem RequestCode.visitOpen (side : Side) : RequestCode.Statement (.visitOpen side) := requestCode_of_none rfl

theorem RequestCode.answerArrival (side : Side) (msg : UpMsg) : RequestCode.Statement (.answerArrival side msg) :=
  requestCode_of_none rfl

theorem RequestCode.missedVisit (side : Side) : RequestCode.Statement (.missedVisit side) :=
  requestCode_of_none rfl

theorem RequestCode.missCountLimit (side : Side) : RequestCode.Statement (.missCountLimit side) :=
  requestCode_of_none rfl

theorem RequestCode.poweringTimeout (side : Side) : RequestCode.Statement (.poweringTimeout side) :=
  requestCode_of_none rfl

theorem RequestCode.audioFrame : RequestCode.Statement (.audioFrame) := requestCode_of_none rfl

theorem RequestCode.rampStep : RequestCode.Statement (.rampStep) := requestCode_of_none rfl

theorem RequestCode.fadeComplete (seat : Seat) : RequestCode.Statement (.fadeComplete seat) :=
  requestCode_of_none rfl

theorem RequestCode.countEvent (sect : Sect) : RequestCode.Statement (.countEvent sect) := requestCode_of_none rfl

theorem RequestCode.expired (seat : Seat) : RequestCode.Statement (.expired seat) := requestCode_of_none rfl

theorem RequestCode.expiryClose (seat : Seat) : RequestCode.Statement (.expiryClose seat) :=
  requestCode_of_none rfl

theorem RequestCode.graceExpiry (sect : Sect) : RequestCode.Statement (.graceExpiry sect) :=
  requestCode_of_none rfl

theorem RequestCode.idleExpiry (sect : Sect) : RequestCode.Statement (.idleExpiry sect) := requestCode_of_none rfl

theorem RequestCode.secondTick : RequestCode.Statement (.secondTick) := requestCode_of_none rfl

theorem RequestCode.minuteEvent : RequestCode.Statement (.minuteEvent) := requestCode_of_none rfl

theorem RequestCode.sources (present : Vector Bool 8) : RequestCode.Statement (.sources present) :=
  requestCode_of_none rfl

theorem RequestCode.pollMissLimit : RequestCode.Statement (.pollMissLimit) := requestCode_of_none rfl

theorem RequestCode.ack (screen : Nat) (version : Nat) : RequestCode.Statement (.ack screen version) :=
  requestCode_of_none rfl

theorem RequestCode.ackTimeout (screen : ScreenNo) : RequestCode.Statement (.ackTimeout screen) :=
  requestCode_of_none rfl

theorem RequestCode.hello (screen : Nat) : RequestCode.Statement (.hello screen) := requestCode_of_none rfl

theorem RequestCode.storeWriteComplete : RequestCode.Statement (.storeWriteComplete) := requestCode_of_none rfl

theorem RequestCode.status (read : StatusRead) : RequestCode.Statement (.status read) := requestCode_of_none rfl

theorem RequestCode.fetch (port : Port) (clocked : Nat) : RequestCode.Statement (.fetch port clocked) :=
  requestCode_of_none rfl

theorem RequestCode.framing (port : Port) (clocked : Clocked) : RequestCode.Statement (.framing port clocked) :=
  requestCode_of_none rfl

theorem RequestCode.illegal (port : Port) (code : Byte) (payload : List Byte) :
    RequestCode.Statement (.illegal port code payload) := by
  intro wf p q l e
  cases e
  have w : payloadFits payload = true := (Bool.and_eq_true _ _ |>.mp wf).2
  exact ⟨by simpa [payloadFits] using w, .inr rfl⟩

theorem RequestCode.readSeat (port : Port) (payload : List Byte) :
    RequestCode.Statement (.readSeat port payload) :=
  requestCode_of_code rfl id (by decide)

theorem RequestCode.readSect (port : Port) (payload : List Byte) :
    RequestCode.Statement (.readSect port payload) :=
  requestCode_of_code rfl id (by decide)

theorem RequestCode.readQueue (port : Port) (payload : List Byte) :
    RequestCode.Statement (.readQueue port payload) :=
  requestCode_of_code rfl id (by decide)

theorem RequestCode.walkIn (port : Port) (payload : List Byte) : RequestCode.Statement (.walkIn port payload) :=
  requestCode_of_code rfl id (by decide)

theorem RequestCode.checkIn (port : Port) (payload : List Byte) : RequestCode.Statement (.checkIn port payload) :=
  requestCode_of_code rfl id (by decide)

theorem RequestCode.endMeeting (port : Port) (payload : List Byte) :
    RequestCode.Statement (.endMeeting port payload) :=
  requestCode_of_code rfl id (by decide)

theorem RequestCode.extend (port : Port) (payload : List Byte) : RequestCode.Statement (.extend port payload) :=
  requestCode_of_code rfl id (by decide)

theorem RequestCode.grant (port : Port) (payload : List Byte) : RequestCode.Statement (.grant port payload) :=
  requestCode_of_code rfl id (by decide)

theorem RequestCode.deny (port : Port) (payload : List Byte) : RequestCode.Statement (.deny port payload) :=
  requestCode_of_code rfl id (by decide)

theorem RequestCode.close (port : Port) (payload : List Byte) : RequestCode.Statement (.close port payload) :=
  requestCode_of_code rfl id (by decide)

theorem RequestCode.closeAll (port : Port) (payload : List Byte) :
    RequestCode.Statement (.closeAll port payload) :=
  requestCode_of_code rfl id (by decide)

theorem RequestCode.nextSeat (port : Port) (payload : List Byte) :
    RequestCode.Statement (.nextSeat port payload) :=
  requestCode_of_code rfl id (by decide)

theorem RequestCode.promote (port : Port) (payload : List Byte) : RequestCode.Statement (.promote port payload) :=
  requestCode_of_code rfl id (by decide)

theorem RequestCode.priority (port : Port) (payload : List Byte) :
    RequestCode.Statement (.priority port payload) :=
  requestCode_of_code rfl id (by decide)

theorem RequestCode.floor (port : Port) (payload : List Byte) : RequestCode.Statement (.floor port payload) :=
  requestCode_of_code rfl id (by decide)

theorem RequestCode.addTime (port : Port) (payload : List Byte) : RequestCode.Statement (.addTime port payload) :=
  requestCode_of_code rfl id (by decide)

theorem RequestCode.clock (port : Port) (payload : List Byte) : RequestCode.Statement (.clock port payload) :=
  requestCode_of_code rfl id (by decide)

theorem RequestCode.share (port : Port) (payload : List Byte) : RequestCode.Statement (.share port payload) :=
  requestCode_of_code rfl id (by decide)

theorem RequestCode.unshare (port : Port) (payload : List Byte) : RequestCode.Statement (.unshare port payload) :=
  requestCode_of_code rfl id (by decide)

theorem RequestCode.setTime (port : Port) (payload : List Byte) : RequestCode.Statement (.setTime port payload) :=
  requestCode_of_code rfl id (by decide)

theorem RequestCode.book (port : Port) (payload : List Byte) : RequestCode.Statement (.book port payload) :=
  requestCode_of_code rfl id (by decide)

theorem RequestCode.roster (port : Port) (payload : List Byte) : RequestCode.Statement (.roster port payload) :=
  requestCode_of_code rfl id (by decide)

theorem RequestCode.unroster (port : Port) (payload : List Byte) :
    RequestCode.Statement (.unroster port payload) :=
  requestCode_of_code rfl id (by decide)

theorem RequestCode.move (port : Port) (payload : List Byte) : RequestCode.Statement (.move port payload) :=
  requestCode_of_code rfl id (by decide)

theorem RequestCode.cancel (port : Port) (payload : List Byte) : RequestCode.Statement (.cancel port payload) :=
  requestCode_of_code rfl id (by decide)

theorem RequestCode.freeze (port : Port) (payload : List Byte) : RequestCode.Statement (.freeze port payload) :=
  requestCode_of_code rfl id (by decide)

theorem RequestCode.list (port : Port) (payload : List Byte) : RequestCode.Statement (.list port payload) :=
  requestCode_of_code rfl id (by decide)

theorem RequestCode.readBook (port : Port) (payload : List Byte) :
    RequestCode.Statement (.readBook port payload) :=
  requestCode_of_code rfl id (by decide)

theorem RequestCode.clearTable (port : Port) (payload : List Byte) :
    RequestCode.Statement (.clearTable port payload) :=
  requestCode_of_code rfl id (by decide)

theorem RequestCode.trim (port : Port) (payload : List Byte) : RequestCode.Statement (.trim port payload) :=
  requestCode_of_code rfl id (by decide)

theorem RequestCode.neighbour (port : Port) (payload : List Byte) :
    RequestCode.Statement (.neighbour port payload) :=
  requestCode_of_code rfl id (by decide)

theorem RequestCode.volume (port : Port) (payload : List Byte) : RequestCode.Statement (.volume port payload) :=
  requestCode_of_code rfl id (by decide)

theorem RequestCode.layout (port : Port) (payload : List Byte) : RequestCode.Statement (.layout port payload) :=
  requestCode_of_code rfl id (by decide)

theorem RequestCode.split (port : Port) (payload : List Byte) : RequestCode.Statement (.split port payload) :=
  requestCode_of_code rfl id (by decide)

theorem RequestCode.seatMap (port : Port) (payload : List Byte) : RequestCode.Statement (.seatMap port payload) :=
  requestCode_of_code rfl id (by decide)

theorem RequestCode.profile (port : Port) (payload : List Byte) : RequestCode.Statement (.profile port payload) :=
  requestCode_of_code rfl id (by decide)

theorem RequestCode.storeProf (port : Port) (payload : List Byte) :
    RequestCode.Statement (.storeProf port payload) :=
  requestCode_of_code rfl id (by decide)

theorem RequestCode.storeMap (port : Port) (payload : List Byte) :
    RequestCode.Statement (.storeMap port payload) :=
  requestCode_of_code rfl id (by decide)

theorem RequestCode.levels (port : Port) (payload : List Byte) : RequestCode.Statement (.levels port payload) :=
  requestCode_of_code rfl id (by decide)

theorem RequestCode.screen (port : Port) (payload : List Byte) : RequestCode.Statement (.screen port payload) :=
  requestCode_of_code rfl id (by decide)

theorem RequestCode.reseat (port : Port) (payload : List Byte) : RequestCode.Statement (.reseat port payload) :=
  requestCode_of_code rfl id (by decide)

theorem RequestCode.screenSect (port : Port) (payload : List Byte) :
    RequestCode.Statement (.screenSect port payload) :=
  requestCode_of_code rfl id (by decide)

end Sys2Proof.Laws
end

