-- ==== Sys2Proof/Tests/Slice0.lean ====
section
/-! SUPPORT. Tests of the model, each one step on a small state with its expected value from the spec: the
checks of WellFormed with a command that each refuses, the spec's worked examples, and for the statements
with hypotheses a witness that meets them. -/

set_option autoImplicit false
set_option maxRecDepth 20000

open Sys2Proof
open Sys2Proof.Machine

namespace Sys2Proof.Tests

/-! ### Helpers -/

/-- The state after one command. -/
def after (c : Instr) (s : State) : State :=
  match exec c s with
  | .next t => t
  | .fault _ => s
  | .refused _ => s

/-- The reply code in a port's reply slot. -/
def answer (s : State) (p : Port) : Option ReplyCode := (s.port p).reply.map fun r => r.code

/-- The reply payload in a port's reply slot. -/
def answered (s : State) (p : Port) : Option (List Byte) := (s.port p).reply.map fun r => r.payload

/-- The state after reset with the start-up load over: a free, JOINED table. -/
def idle : State := { State.reset with starting := false }

/-- The same table, DIVIDED, with both sections free. -/
def divided : State := { idle with mode := .divided, secB := sectAfterReset .free factoryProfile }

/-- A READY seat with a DELEGATE_UNIT that acts as chair at N0 and S0 and as delegate elsewhere. -/
def member (i : Seat) : SeatRec :=
  { seatAfterReset (factoryEntry i) factoryProfile with
    presence := .ready, kind := some .delegateUnit,
    part := some ⟨if i = 0 ∨ i = 24 then .chair else .delegate, none, none⟩ }

/-- Booking 1 on the JOINED table: RUNNING, minutes 1000 to 1060. -/
def running : Booking :=
  { id := 1, span := .joined, start := some 1000, stop := some 1060, profile := 0, lead := .a, title := [],
    roster := [], origin := .scheduled, state := .running }

/-- Booking 2: PENDING, minutes 1200 to 1260, with N5 in its roster. -/
def waiting : Booking :=
  { id := 2, span := .joined, start := some 1200, stop := some 1260, profile := 1, lead := .b, title := [],
    roster := [⟨5, [0x41], none⟩], origin := .scheduled, state := .pending }

/-- Section A's record in a meeting. -/
def room (st : SectState) : SectRec :=
  { sectAfterReset st factoryProfile with booking := some 1, chairs := [0, 24] }

/-- A meeting on the JOINED table at minute 1010: every seat READY, section A in the given state. -/
def meeting (st : SectState) : State :=
  { idle with secA := room st, seats := Vector.ofFn member, minute := some 1010,
              bookings := [running, waiting], lastId := 2 }

/-- A meeting with one seat's record changed. -/
def with1 (st : SectState) (i : Seat) (f : SeatRec → SeatRec) : State := (meeting st).modSeat i f

/-- A seat speaking in slot 0. -/
def speaking (r : SeatRec) : SeatRec := { r with mic := .active, slot := some 0, stamp := some 1, ramp := 32 }

/-- A meeting in SESSION with one record of section A changed. -/
def session (f : SectRec → SectRec) : State := (meeting .session).modSect .a f

/-- A state with the visit of a position of the north ring open. -/
def visiting (p : Fin 24) (s : State) : State := { s with north := { s.north with visit := some p } }

/-- A well-formed answer at a position. -/
def reply (p : Fin 24) (content : UpContent) : UpMsg := ⟨true, true, p.val, true, true, content⟩

/-! ### WellFormed: a command that each check refuses -/

theorem test_illformed_payload : (Instr.trim .mdp (List.replicate 251 0)).wellFormed = false := by decide
theorem test_wellformed_payload : (Instr.trim .mdp (List.replicate 250 0)).wellFormed = true := by decide
theorem test_illformed_illegal_code : (Instr.illegal .scp 0x49 []).wellFormed = false := by decide
theorem test_illformed_illegal_payload :
    (Instr.illegal .scp 0x4A (List.replicate 251 0)).wellFormed = false := by decide
theorem test_illformed_ack_screen : (Instr.ack 256 1).wellFormed = false := by decide
theorem test_illformed_ack_version : (Instr.ack 0 65536).wellFormed = false := by decide
theorem test_illformed_hello : (Instr.hello 256).wellFormed = false := by decide
theorem test_illformed_unit_kind : (Instr.answerArrival .north (reply 3 (.unitKind 256))).wellFormed = false := by
  decide

/-- An answer of a READY seat, with the five things that its shape bounds. -/
def readyAnswer (seq : Nat) (events : List KeyEvent) (ring plate : Option Nat) (mic : List Int) : Instr :=
  .answerArrival .north (reply 3 (.ready seq events ring plate mic))

/-- A block of silence. -/
def silence : List Int := List.replicate 960 0

theorem test_wellformed_ready : (readyAnswer 255 [] (some 254) none silence).wellFormed = true := by decide
theorem test_illformed_sequence : (readyAnswer 256 [] none none silence).wellFormed = false := by decide
theorem test_illformed_events :
    (readyAnswer 0 (List.replicate 5 .requestPress) none none silence).wellFormed = false := by decide
theorem test_illformed_ring_version : (readyAnswer 0 [] (some 0) none silence).wellFormed = false := by decide
theorem test_illformed_plate_version : (readyAnswer 0 [] none (some 255) silence).wellFormed = false := by decide
theorem test_illformed_block : (readyAnswer 0 [] none none [0]).wellFormed = false := by decide
theorem test_illformed_sample :
    (readyAnswer 0 [] none none (8388608 :: List.replicate 959 0)).wellFormed = false := by decide
theorem test_every_command_is_in_its_table :
    (Instr.promote .cpa []).wellFormed = true ∧ decodeTableWord 8 0x29 = none := by decide

/-! ### Reset, seat rings (spec/01) -/

/-- Table 2-6, Table 3-3: after reset every seat is ABSENT, section A FREE, section B MERGED. -/
theorem test_reset_values :
    (State.reset.seat 47).presence = .absent ∧ State.reset.secA.state = .free ∧
      State.reset.secB.state = .merged ∧ State.reset.starting = true := by decide

/-- R195, R196: a reset abandons a write and keeps the item's old content. -/
theorem test_reset_abandons_write :
    (after .hardwareReset { idle with write := some (.table { factoryTable with k := 20 }) }).write = none ∧
      (after .hardwareReset { idle with write := some (.table { factoryTable with k := 20 }) }).k = 12 := by
  decide

/-- R195: the load's completion clears STARTING; Table 9-2: each screen is sent its first update. -/
theorem test_load_completes :
    (after .startUpLoadComplete State.reset).starting = false ∧
      ((after .startUpLoadComplete State.reset).screen 3).inFlight = some 1 := by decide

/-- R1, R2: the controller visits position 0 first, and polls an ABSENT seat with the power command off. -/
theorem test_visit_polls_absent :
    (after (.visitOpen .south) idle).south =
      { next := 1, visit := some 0, down := some ⟨0, false, .poll⟩ } := by decide

/-- R5: the eighth answered visit in DETECTED leads to POWERING. -/
theorem test_answer_eighth_visit :
    ((after (.answerArrival .north (reply 3 .bare)) (visiting 3 (idle.modSeat 3 fun r =>
      { r with presence := .detected, bringUp := 7 }))).seat 3).presence = .powering := by decide

/-- R7, R14: a DELEGATE_UNIT that answers at N0, of class CHAIR, raises MISMATCH to the MDP. -/
theorem test_answer_mismatch :
    (after (.answerArrival .north (reply 0 (.unitKind 0))) (visiting 0 (idle.modSeat 0 fun r =>
      { r with presence := .identifying }))).mdp.notices.map (fun n => n.detail) =
        [.seatMismatch .delegateUnit] := by decide

/-- R4: the first missed visit of a READY seat only counts. -/
theorem test_missed_visit :
    ((after (.missedVisit .north) (visiting 3 (meeting .session))).seat 3).presence = .ready ∧
      ((after (.missedVisit .north) (visiting 3 (meeting .session))).seat 3).miss = 1 := by decide

/-- R10: the third missed visit in a row of a READY seat makes it ABSENT. -/
theorem test_miss_count_limit :
    ((after (.missCountLimit .north) (visiting 3 (with1 .session 3 fun r => { r with miss := 2 }))).seat
      3).presence = .absent := by decide

/-- R6: POWERING fails at the hundredth visit without GOOD, with step 2 and TIMEOUT. -/
theorem test_powering_timeout :
    ((after (.poweringTimeout .north) (visiting 3 (idle.modSeat 3 fun r =>
      { r with presence := .powering, bringUp := 99 }))).seat 3).fault = some ⟨2, .timeout⟩ := by decide

/-! ### The audio mix (spec/06 7.10) -/

/-- The working settings of 7.10.1. -/
def mixProfile : Profile := { factoryProfile with volume := 12288 }

/-- A seat that speaks at full ramp level with a sample and a trim. -/
def talker (slot : Nat) (x : Int) (trim : Nat) (r : SeatRec) : SeatRec :=
  { r with mic := .active, slot := some slot, stamp := some 1, ramp := 32, micNow := [x],
           map := { r.map with trim := trim } }

/-- The table of 7.10.1: N3 and N5 speak, DIVIDED at K = 12. -/
def mixTable : State :=
  ({ divided with seats := Vector.ofFn member,
                  secA := { sectAfterReset .session factoryProfile with settings := mixProfile } }.modSeat 3
    (talker 0 1000000 16384)).modSeat 5 (talker 1 (-400000) 20626)

/-- 7.10.1: output 1 carries 351,026; Table 7-5: the feeds of N4 and S3. -/
theorem test_frame_bus_and_feeds :
    (after .audioFrame mixTable).out1 = 351026 ∧
      ((after .audioFrame mixTable).seat 4).feedNow = [32909] ∧
      ((after .audioFrame mixTable).seat 27).feedNow = [-200760] := by decide

/-- 7.10.3: two voices of 6,000,000 clip together, and the bus clip counter of A rises to 1. -/
theorem test_frame_clips :
    (after .audioFrame ((mixTable.modSeat 3 (talker 0 6000000 16384)).modSeat 5
      (talker 1 6000000 16384))).out1 = 8388607 ∧
      (after .audioFrame ((mixTable.modSeat 3 (talker 0 6000000 16384)).modSeat 5
        (talker 1 6000000 16384))).secA.busClip = 1 := by decide

/-- R113, R114: at a step frame a CLOSING seat falls from 1 to 0 and is reported. -/
theorem test_ramp_step :
    ((after .rampStep { with1 .session 5 (fun r => { r with mic := .closing, slot := some 0, ramp := 1 }) with
      place := 15 }).seat 5).fadeReport = some 0 := by decide

/-- A seat fading in a slot, its fade complete report made at a step frame. -/
def fadingAt (slot frame : Nat) (r : SeatRec) : SeatRec :=
  { r with mic := .closing, slot := some slot, fadeReport := some frame }

/-- R70: a fade completion makes the seat CLOSED and frees its slot. -/
theorem test_fade_complete :
    ((after (.fadeComplete 5) (with1 .session 5 (fadingAt 0 0))).seat 5).slot = none := by decide

/-- R114: of two reports of one step frame the lower seat's comes first; the report of an earlier frame before. -/
theorem test_fade_order :
    (((with1 .session 5 (fadingAt 0 3)).modSeat 9 (fadingAt 1 3)).nextFade = some 5) ∧
      (((with1 .session 5 (fadingAt 0 3)).modSeat 9 (fadingAt 1 2)).nextFade = some 9) := by decide

/-! ### Speaking time (Table 6-4) -/

/-- N7 speaking with seconds left of a budget of 120 s. -/
def turning (left : Int) (r : SeatRec) : SeatRec :=
  { speaking r with turn := some ⟨120, left, false, false, false⟩, cumul := 95 }

/-- Table 6-4 at 10:20:01: remaining 119, cumulative 96. -/
theorem test_count_first :
    ((after (.countEvent .a) (with1 .session 7 (turning 120))).seat 7).turn =
        some ⟨120, 119, false, false, false⟩ ∧
      ((after (.countEvent .a) (with1 .session 7 (turning 120))).seat 7).cumul = 96 := by decide

/-- Table 6-4 at 10:22:10: the count to 30 warns, with one TURN notice to CPA. -/
theorem test_count_warning :
    (after (.countEvent .a) (with1 .session 7 (turning 31))).cpa.notices.map (fun n => n.detail) =
      [.turn .warning (some 120) (some 30) true false none 96 false] := by decide

/-- Table 6-4 at 10:22:40: the count to 0 expires the turn, and under NOTIFY the mic stays open. -/
theorem test_expired :
    ((after (.expired 7) (with1 .session 7 (turning 1))).seat 7).turn = some ⟨120, 0, false, true, false⟩ ∧
      ((after (.expired 7) (with1 .session 7 (turning 1))).seat 7).mic = .active := by decide

/-- R73: a report of an expiry closes the seat. -/
theorem test_expiry_close :
    ((after (.expiryClose 7) (with1 .session 7 fun r =>
      { speaking r with turn := some ⟨120, 0, true, true, true⟩ })).seat 7).mic = .closing := by decide

/-! ### Timers, time, sources, screens -/

/-- R176: a grace expiry ends the session, and its booking leaves the calendar. -/
theorem test_grace_expiry :
    (after (.graceExpiry .a) ((meeting .grace).modSect .a fun r => { r with grace := .runOut })).secA.state =
        .free ∧
      (after (.graceExpiry .a) ((meeting .grace).modSect .a fun r => { r with grace := .runOut })).bookings =
        [waiting] := by decide

/-- R183: an idle expiry ends the session with reason IDLE. -/
theorem test_idle_expiry :
    (after (.idleExpiry .a) (session fun r => { r with idle := .runOut })).secA.state = .free := by decide

/-- R152: past 59 the second becomes 0 and the minute count advances. -/
theorem test_second_tick :
    (after .secondTick { idle with minute := some 7, second := 59 }).minute = some 8 ∧
      (after .secondTick { idle with minute := some 7, second := 59 }).second = 0 := by decide

/-- R167: the minute event at minute 1060 ends the meeting of booking 1. -/
theorem test_minute_event :
    (after .minuteEvent { meeting .session with minute := some 1059, second := 59 }).bookings = [waiting] := by
  decide

/-- R133: the third unanswered poll clears every present flag. -/
theorem test_poll_miss_limit :
    (after .pollMissLimit { idle with
      polled := true, pollMiss := 2, present := Vector.replicate 8 true }).present = Vector.replicate 8 false := by decide

/-- R133: the matrix's answer replaces the present flags. -/
theorem test_sources :
    (after (.sources (Vector.replicate 8 true)) idle).present = Vector.replicate 8 true := by decide

/-- Screen 0 with version 5 in flight. -/
def flying : State :=
  idle.modScreen 0 fun r => { r with version := some 5, inFlight := some 5, ackTimer := some 90, dirty := false }

/-- R145: an ACK of the version in flight makes the screen ONLINE with nothing in flight. -/
theorem test_ack : ((after (.ack 0 5) flying).screen 0).link = .online ∧
    ((after (.ack 0 5) flying).screen 0).inFlight = none := by decide

/-- R146: a timeout makes the screen OFFLINE and dirty. -/
theorem test_ack_timeout : ((after (.ackTimeout 0) flying).screen 0).link = .offline ∧
    ((after (.ackTimeout 0) flying).screen 0).dirty = true := by decide

/-- R147: a HELLO is answered with an update under a new version. -/
theorem test_hello : ((after (.hello 0) flying).screen 0).inFlight = some 6 := by decide

/-! ### The port block (Table 12-8) -/

/-- The MDP's port at 0 ms: the TRIM reply waits unfetched. -/
def mdpStart : State := { idle with mdp := { idle.mdp with reply := some ⟨0x60, .ok, []⟩ } }

/-- Table 12-8 at 2 ms: STOREMAP drops the reply, sets REPLY_LOST and stays busy. -/
theorem test_store_map :
    (after (.storeMap .mdp []) mdpStart).mdp.busy = true ∧
      (after (.storeMap .mdp []) mdpStart).mdp.replyLost = true ∧
      (after (.storeMap .mdp []) mdpStart).mdp.reply = none := by decide

/-- Table 12-8 at 140 ms: the store's completion answers STOREMAP OK. -/
theorem test_store_write_complete :
    answer (after .storeWriteComplete (after (.storeMap .mdp []) mdpStart)) .mdp = some .ok ∧
      (after .storeWriteComplete (after (.storeMap .mdp []) mdpStart)).mdp.busy = false := by decide

/-- Table 12-8 at 20 ms: the STATUS shows only REQ_BUSY, bit 6. -/
theorem test_status : (after (.status ⟨.mdp, 0⟩) { idle with mdp := { idle.mdp with busy := true } }).mdp.out =
    [0x40] := by decide

/-- R190: STATUS clears the sticky flags it showed. -/
theorem test_status_clears :
    (after (.status ⟨.mdp, 0⟩) { idle with mdp := { idle.mdp with overrun := true } }).mdp.overrun = false := by
  decide

/-- R189: the bytes clocked after the status byte are shifted out as 00h. -/
theorem test_status_longer : (after (.status ⟨.mdp, 2⟩) idle).mdp.out = [0, 0, 0] := by decide

/-- R189: command byte 00h is STATUS, 01h FETCH, 60h with L = 3 and three bytes TRIM, with two FRAMING. -/
theorem test_transactions :
    transaction? .mdp ⟨[0, 9], false⟩ = some (.status ⟨.mdp, 1⟩) ∧
      transaction? .mdp ⟨[1, 0, 0], false⟩ = some (.fetch .mdp 2) ∧
      transaction? .mdp ⟨[0x60, 3, 3, 0x50, 0x92], false⟩ = some (.trim .mdp [3, 0x50, 0x92]) ∧
      transaction? .mdp ⟨[0x60, 3, 3, 0x50], false⟩ = some (.framing .mdp ⟨[0x60, 3, 3, 0x50], false⟩) := by
  decide

/-- R192: a FETCH of the reply shifts out its length, 80h, the command and the code, and takes it. -/
theorem test_fetch :
    (after (.fetch .mdp 4) mdpStart).mdp.out = [0x20, 3, 0x80, 0x60, 0] ∧
      (after (.fetch .mdp 4) mdpStart).mdp.reply = none := by decide

/-- R192: one byte short, the reply stays. -/
theorem test_fetch_short : (after (.fetch .mdp 3) mdpStart).mdp.reply = some ⟨0x60, .ok, []⟩ := by decide

/-- R189: a discarded transaction sets FRAMING and leaves the reply. -/
theorem test_framing : (after (.framing .mdp ⟨[0x60, 3, 3], false⟩) mdpStart).mdp.framing = true ∧
    (after (.framing .mdp ⟨[0x60, 3, 3], false⟩) mdpStart).mdp.reply = some ⟨0x60, .ok, []⟩ := by decide

/-- R141: an input that is not present shows the heading NO SIGNAL and the line INPUT n. -/
theorem test_no_signal :
    noSignalOf 3 = .noSignal 3 [0x4E, 0x4F, 0x20, 0x53, 0x49, 0x47, 0x4E, 0x41, 0x4C]
      [0x49, 0x4E, 0x50, 0x55, 0x54, 0x20, 0x33] := by decide

/-- R191: a code outside Table 12-3 is answered ILLEGAL. -/
theorem test_illegal : answer (after (.illegal .scp 0x4A []) idle) .scp = some .illegal := by decide

/-- R191: while the load runs every request is answered STARTING. -/
theorem test_starting : answer (after (.readSeat .scp [0]) State.reset) .scp = some .starting := by decide

/-- R191: a port that Table 12-3 does not name is answered NOT_PERMITTED, a wrong length LENGTH. -/
theorem test_checks : answer (after (.trim .scp [0, 0, 0]) idle) .scp = some .notPermitted ∧
    answer (after (.trim .mdp [0, 0]) idle) .mdp = some .length := by decide

/-! ### Reads -/

/-- R84: seat 29 is on side south, position 5, in section A of a JOINED table. -/
theorem test_read_seat :
    (answered (after (.readSeat .cpb [29]) idle) .cpb).map (fun l => l.take 4) = some [29, 1, 5, 0] := by decide

/-- R34: section B of a JOINED table: mode 0, K 12, default mode 0, lead port 0, state MERGED, code 5. -/
theorem test_read_sect :
    (answered (after (.readSect .scp [1]) idle) .scp).map (fun l => l.take 5) = some [0, 12, 0, 0, 5] := by decide

/-- R57: an empty queue is read in ten bytes. -/
theorem test_read_queue :
    (answered (after (.readQueue .scp [0]) idle) .scp).map (fun l => l.length) = some 10 := by decide

/-- R169: with table time unset LIST is refused NO_TIME. -/
theorem test_list : answer (after (.list .scp [0]) idle) .scp = some .noTime := by decide

/-- R169: READBOOK of an id that is not in the calendar is refused NOT_FOUND. -/
theorem test_read_book :
    answer (after (.readBook .scp [0, 9, 0]) (meeting .session)) .scp = some .notFound := by decide

/-- R149: a screen above 3 is refused RANGE. -/
theorem test_screen : answer (after (.screen .mdp [4]) idle) .mdp = some .range ∧
    answer (after (.screen .mdp [3]) idle) .mdp = some .ok := by decide

/-- R117: LEVELS clears the clip counters. -/
theorem test_levels :
    (after (.levels .mdp []) (idle.modSect .a fun r => { r with busClip := 9 })).secA.busClip = 0 := by decide

/-! ### The floor (Tables 4-7, 4-8, 5-6) -/

/-- The queue of Table 4-7 at 10:02:20: N7, S2 and S8 wait, N3 and N5 speak. -/
def table47 : State :=
  (({ meeting .session with
      secA := { room .session with
        settings := { factoryProfile with limit := 2 }, stampCtr := 6, reqCtr := 12,
        queue := [⟨7, .normal, 9⟩, ⟨26, .normal, 10⟩, ⟨32, .normal, 11⟩] } }).modSeat 3 fun r =>
      { speaking r with stamp := some 4 }).modSeat 5 fun r => { speaking r with slot := some 1, stamp := some 5 }

/-- Table 4-7 at 10:02:31: PROMOTE S8 is answered OK with place 1. -/
theorem test_promote :
    (after (.promote .cpa [32]) table47).secA.queue =
        [⟨32, .promoted, 11⟩, ⟨7, .normal, 9⟩, ⟨26, .normal, 10⟩] ∧
      answered (after (.promote .cpa [32]) table47) .cpa = some [1] := by decide

/-- Table 4-7 at 10:02:40: as N3 closes, the head is granted with stamp 6. -/
theorem test_close_advances :
    ((after (.close .cpa [3]) table47).seat 7).stamp = some 6 ∧
      ((after (.close .cpa [3]) table47).seat 7).mic = .active ∧
      ((after (.close .cpa [3]) table47).seat 3).mic = .closing := by decide

/-- Table 4-7 at 10:02:55: DENY N7 removes its entry. -/
theorem test_deny : (after (.deny .cpa [7]) table47).secA.queue = [⟨26, .normal, 10⟩, ⟨32, .normal, 11⟩] ∧
    answer (after (.deny .cpa [7]) table47) .cpa = some .ok := by decide

/-- Table 4-8: DENY of a seat that has the floor is refused TOO_LATE. -/
theorem test_deny_too_late : answer (after (.deny .cpa [5]) table47) .cpa = some .tooLate := by decide

/-- R52: at the limit GRANT is refused LIMIT. -/
theorem test_grant_limit : answer (after (.grant .cpa [9]) table47) .cpa = some .limit := by decide

/-- R62: a granted seat takes the lowest free slot at ramp level 0. -/
theorem test_grant :
    ((after (.grant .cpa [9]) (meeting .session)).seat 9).slot = some 0 ∧
      ((after (.grant .cpa [9]) (meeting .session)).seat 9).mic = .active := by decide

/-- R53: NEXT with an empty queue is refused NOT_FOUND. -/
theorem test_next : answer (after (.nextSeat .cpa []) (meeting .session)) .cpa = some .notFound := by decide

/-- R72: CLOSEALL closes both delegates and answers with their number. -/
theorem test_close_all : answered (after (.closeAll .cpa []) table47) .cpa = some [2] := by decide

/-- R77: priority from the console suspends the speaking delegates. -/
theorem test_priority : ((after (.priority .cpa [1]) table47).seat 3).mic = .suspended ∧
    answered (after (.priority .cpa [1]) table47) .cpa = some [1, 1] := by decide

/-- R56: a limit below the delegate count is refused LIMIT. -/
theorem test_floor : answer (after (.floor .cpa [1, 0, 1, 0]) table47) .cpa = some .limit ∧
    (after (.floor .cpa [0, 1, 2, 2]) table47).secA.settings.keyMode = .toggle := by decide

/-- Table 6-4: ADDTIME of 60 s at −15 gives 45 with both flags clear. -/
theorem test_add_time :
    ((after (.addTime .cpa ([7] ++ enc16 60)) (with1 .session 7 fun r =>
      { speaking r with turn := some ⟨120, -15, true, true, false⟩ })).seat 7).turn =
        some ⟨120, 45, false, false, false⟩ := by decide

/-- R94: CLOCK sets the section's hold flag. -/
theorem test_clock : (after (.clock .cpa [1]) (meeting .session)).secA.clockHold = true := by decide

/-- 9.1's example: N4 and S9 both have share input 2; N4 owns source 2 and S9 none. -/
def shares : State :=
  ((meeting .session).modSeat 4 fun r => { r with map := { r.map with share := some 2 } }).modSeat 33 fun r =>
    { r with map := { r.map with share := some 2 } }

/-- 9.1's example, through SHARE: N4 presents its source, S9 has none to present. -/
theorem test_share : (after (.share .mdp [4]) shares).secA.presenter = some (4, .explicit) ∧
    answer (after (.share .mdp [33]) shares) .mdp = some .notFound := by decide

/-- R138: UNSHARE takes an explicit presenter off. -/
theorem test_unshare :
    (after (.unshare .mdp [0]) (shares.modSect .a fun r => { r with
      presenter := some (4, .explicit), settings := { r.settings with follows := false } })).secA.presenter = none := by decide

/-! ### Sessions and the calendar -/

/-- R30's example: K = 12 and lead half B give the acting chairs N12 and S23. -/
theorem test_walk_in_chairs :
    (after (.walkIn .cpb [2, 0, 0, 0]) { idle with minute := some 1000 }).secA.chairs = [12, 47] ∧
      (after (.walkIn .cpb [2, 0, 0, 0]) { idle with minute := some 1000 }).lead = .b := by decide

/-- R177: CHECKIN from the SCP checks section A in. -/
theorem test_check_in : (after (.checkIn .scp [0]) (meeting .grace)).secA.state = .session := by decide

/-- R184: END answers with the id of the booking that ended. -/
theorem test_end : answered (after (.endMeeting .cpa []) (meeting .session)) .cpa = some [0, 1] := by decide

/-- Table 11-6 in the same shape: an extension to before the next booking is taken. -/
theorem test_extend : answered (after (.extend .cpa [10]) (meeting .session)) .cpa = some (enc32 1070 ++ [2]) ∧
    answer (after (.extend .cpa [120]) ((meeting .session).modSect .a fun r => r)) .cpa = some .ok := by decide

/-- R180, R166: an extension into booking 2 is refused CONFLICT, with its start as the latest end. -/
theorem test_extend_conflict :
    answered (after (.extend .cpa [120]) { meeting .session with
      bookings := [running, { waiting with start := some 1100 }] }) .cpa = some (enc32 1100) := by decide

/-- R153: SETTIME answers with the time it set. -/
theorem test_set_time : (after (.setTime .scp (enc32 500 ++ [7])) idle).minute = some 500 ∧
    (after (.setTime .scp (enc32 500 ++ [7])) idle).second = 7 := by decide

/-- R161: BOOK answers with the new booking's id. -/
theorem test_book :
    answered (after (.book .scp ([0] ++ enc32 1100 ++ enc32 1105 ++ [0, 0, 0])) (meeting .session)) .scp =
      some [0, 3] := by decide

/-- R158: ROSTER of one more seat answers with the counts 2 and 510. -/
theorem test_roster :
    answered (after (.roster .scp [0, 2, 1, 6, 0xFF, 1, 0x41]) (meeting .session)) .scp = some ([2] ++ enc16 510) := by
  decide

/-- R159: UNROSTER of a seat without an entry is refused NOT_FOUND; with an id alone it removes every entry. -/
theorem test_unroster : answer (after (.unroster .scp [0, 2, 6]) (meeting .session)) .scp = some .notFound ∧
    answered (after (.unroster .scp [0, 2]) (meeting .session)) .scp = some ([1, 0] ++ enc16 512) := by decide

/-- R162: MOVE of a RUNNING booking moves its end minute. -/
theorem test_move :
    ((after (.move .scp ([0, 1] ++ enc32 1000 ++ enc32 1090)) (meeting .session)).bookings.map fun b => b.stop) =
      [some 1090, some 1260] := by decide

/-- R163: CANCEL of a RUNNING booking is refused TOO_LATE; a PENDING one leaves the list. -/
theorem test_cancel : answer (after (.cancel .scp [0, 1]) (meeting .session)) .scp = some .tooLate ∧
    (after (.cancel .scp [0, 2]) (meeting .session)).bookings = [running] := by decide

/-- R164: FREEZE answers with F and G, and G above 60 is refused RANGE. -/
theorem test_freeze : answered (after (.freeze .scp [240, 60]) idle) .scp = some [240, 60] ∧
    answer (after (.freeze .scp [0, 61]) idle) .scp = some .range := by decide

/-- R171: CLEARTABLE answers with the number of bookings and empties the list. -/
theorem test_clear_table : answered (after (.clearTable .scp []) (meeting .session)) .scp = some [2] ∧
    (after (.clearTable .scp []) (meeting .session)).bookings = [] := by decide

/-! ### The media processor's commands -/

/-- 12.6: TRIM N3 with gain 20626. -/
theorem test_trim : ((after (.trim .mdp ([3] ++ enc16 20626)) idle).seat 3).map.trim = 20626 := by decide

/-- R119: a factor above 16384 is clamped. -/
theorem test_neighbour :
    (after (.neighbour .mdp ([0] ++ enc16 20000 ++ enc16 1 ++ enc16 2 ++ enc16 3)) idle).secA.settings.d1 =
      16384 := by decide

/-- R120, R23: VOLUME of section B while MERGED is refused WRONG_STATE. -/
theorem test_volume : answer (after (.volume .mdp [1, 0, 0]) idle) .mdp = some .wrongState ∧
    (after (.volume .mdp ([0] ++ enc16 12288)) idle).secA.settings.volume = 12288 := by decide

/-- R140: LAYOUT of one full-grid BLANK tile on screen 2. -/
theorem test_layout :
    (after (.layout .mdp [0, 2, 1, 0, 15, 0, 8, 5, 0xFF, 0, 0]) idle).secA.settings.layouts[2] =
      [{ factoryTile with content := .blank }] := by decide

/-- R28: SPLIT to DIVIDED at K = 8. -/
theorem test_split : (after (.split .mdp [8, 1]) idle).mode = .divided ∧
    (after (.split .mdp [8, 1]) idle).secB.state = .free := by decide

/-- R197: SEATMAP sets class, share input and trim of one seat. -/
theorem test_seat_map :
    ((after (.seatMap .mdp [6, 1, 0xFF, 0x40, 0]) idle).seat 6).map = ⟨.chair, none, 16384⟩ := by decide

/-- R187: a PROFILE of the factory fields is answered with what it wrote. -/
theorem test_profile :
    answered (after (.profile .mdp ([7] ++ encProfile factoryProfile)) idle) .mdp =
      some ([7] ++ encProfile factoryProfile) := by decide

/-- R198: STOREPROF while a write is in progress is refused BUSY. -/
theorem test_store_prof :
    answer (after (.storeProf .mdp [0]) { idle with write := some (.table factoryTable) }) .mdp = some .busy := by
  decide

/-- R12: RESEAT of an ABSENT seat is refused WRONG_STATE; a READY one restarts in DETECTED. -/
theorem test_reseat : answer (after (.reseat .mdp [3]) idle) .mdp = some .wrongState ∧
    ((after (.reseat .mdp [3]) (meeting .session)).seat 3).presence = .detected := by decide

/-- R150: SCREENSECT in DIVIDED mode moves a screen to section B. -/
theorem test_screen_sect : ((after (.screenSect .mdp [1, 0, 0, 0]) divided).screen 0).eff = .b := by decide

/-! ### Witnesses: for each statement with hypotheses, a state and operands that meet them, clause by clause,
at boundary values of the operands -/

/-- Witness for RequestsAreCheckedInOrder: a busy port, the load, an unknown code, a wrong port, a wrong length. -/
theorem witness_RequestsAreCheckedInOrder :
    (request? (.trim .mdp []) = some (.mdp, 0x60, []) ∧ (Instr.trim .mdp []).wellFormed = true ∧
      (({ idle with mdp := { idle.mdp with busy := true } } : State).port .mdp).busy = true) ∧
    ((State.reset.port .mdp).busy = false ∧ State.reset.starting = true) ∧
    (idle.takesFrom .scp ∧ request? (.illegal .scp 0x4A []) = some (.scp, 0x4A, []) ∧
      (Instr.illegal .scp 0x4A []).wellFormed = true ∧ tableCodes.contains (0x4A : Byte).toNat = false) ∧
    (idle.takesFrom .scp ∧ request? (.trim .scp []) = some (.scp, 0x60, []) ∧
      tableCodes.contains (0x60 : Byte).toNat = true ∧ Port.scp ∉ senders (.trim .scp [])) ∧
    (idle.takesFrom .mdp ∧ Port.mdp ∈ senders (.trim .mdp [0, 0]) ∧ lengthFits (.trim .mdp [0, 0]) = false) := by
  unfold State.takesFrom; decide

/-- Witness for NonLeadPortIsRefused: GRANT, and WALKIN while A is not FREE, from CPB while CPA leads. -/
theorem witness_NonLeadPortIsRefused :
    (request? (.grant .cpb [5]) = some (.cpb, 0x24, [5]) ∧ (Instr.grant .cpb [5]).wellFormed = true ∧
      requestFits (.grant .cpb [5]) .cpb ∧ (meeting .session).takesFrom .cpb ∧ portHalf .cpb = some .b ∧
      (meeting .session).mode = .joined ∧ Sect.b ≠ (meeting .session).lead ∧ leadOnly (.grant .cpb [5]) = true) ∧
    (request? (.walkIn .cpb [2, 0, 0, 0]) = some (.cpb, 0x20, [2, 0, 0, 0]) ∧
      requestFits (.walkIn .cpb [2, 0, 0, 0]) .cpb ∧ (meeting .session).secA.state ≠ .free) := by
  unfold State.takesFrom requestFits; decide

/-- Witness for StepTakesTheFront: an empty queue. -/
theorem witness_StepTakesTheFront : State.reset.pending = [] := rfl

/-- Witness for StatusAndFraming: a transaction cut in its command byte and one cut later, one with nothing clocked,
each command byte, a request without its length byte, with one byte too few, with L of 250 and of 251. -/
theorem witness_StatusAndFraming :
    ((⟨[], true⟩ : Clocked).discarded = true ∧ (⟨[1, 0], true⟩ : Clocked).discarded = true ∧
      (⟨[], false⟩ : Clocked).discarded = false ∧ (⟨[0, 7], false⟩ : Clocked).discarded = false) ∧
    ((⟨[0x24], false⟩ : Clocked).discarded = true ∧ (⟨[0x24, 1], false⟩ : Clocked).discarded = true ∧
      ([] : List Byte).length ≠ (1 : Byte).toNat ∧ (⟨[0x24, 1, 5], false⟩ : Clocked).discarded = false ∧
      ([5] : List Byte).length = (1 : Byte).toNat) ∧
    ((List.replicate 250 0 : List Byte).length = (250 : Byte).toNat ∧ (250 : Byte).toNat ≤ 250 ∧
      250 < (251 : Byte).toNat ∧ tableCodes.contains (0x13 : Byte).toNat = false ∧
      tableCodes.contains (0x24 : Byte).toNat = true) := by decide

/-- A notice. -/
def note : Notice := { sect := some .a, seat := none, minute := none, second := 0, detail := .seatAbsent }

/-- Witness for FetchTakesReplyThenNotice: a reply, a notice alone, neither. -/
theorem witness_FetchTakesReplyThenNotice :
    (mdpStart.port .mdp).reply = some ⟨0x60, .ok, []⟩ ∧
    (({ idle with mdp := { idle.mdp with notices := [note] } } : State).port .mdp).reply = none ∧
    (({ idle with mdp := { idle.mdp with notices := [note] } } : State).port .mdp).notices = [note] ∧
    (idle.port .mdp).reply = none ∧ (idle.port .mdp).notices = [] := by decide

/-- Witness for ReadingCommandsChangeNothing: seats 47 and 48, sections 1 and 2, with and without table time,
indexes 63 and 64, a booking, parts 0, 1, 8 and 9, screens 3 and 4. -/
theorem witness_ReadingCommandsChangeNothing :
    ((meeting .session).takesFrom .scp ∧ (meeting .session).takesFrom .mdp ∧
      seatOf? (byteAt [47] 0) = some 47 ∧ 47 < byteAt [48] 0 ∧ sectOf? (byteAt [1] 0) = some .b ∧
      1 < byteAt [2] 0) ∧
    (idle.takesFrom .scp ∧ idle.minute = none ∧ (meeting .session).minute ≠ none ∧ 63 < byteAt [64] 0 ∧
      byteAt [63] 0 ≤ 63) ∧
    ((meeting .session).booking (word16At [0, 9, 0] 0) = none ∧
      (meeting .session).booking (word16At [0, 2, 0] 0) = some waiting ∧ 8 < byteAt [0, 2, 9] 2 ∧
      byteAt [0, 2, 0] 2 = 0 ∧ 1 ≤ byteAt [0, 2, 1] 2 ∧ byteAt [0, 2, 8] 2 ≤ 8) ∧
    (screenOf? (byteAt [3] 0) = some 3 ∧ 3 < byteAt [4] 0) := by
  unfold State.takesFrom; decide

/-- Witness for TrimSetsOneTrim: seats 47 and 48. -/
theorem witness_TrimSetsOneTrim :
    idle.takesFrom .mdp ∧ seatOf? (byteAt [47, 0, 0] 0) = some 47 ∧ 47 < byteAt [48, 0, 0] 0 := by
  unfold State.takesFrom; decide

/-- Witness for MixCommandsClampAndWrite: section 2, MERGED section B, section A. -/
theorem witness_MixCommandsClampAndWrite :
    idle.takesFrom .mdp ∧ 1 < byteAt [2, 0, 0] 0 ∧ 1 < byteAt [2, 0, 0, 0, 0, 0, 0, 0, 0] 0 ∧
    sectOf? (byteAt [1, 0, 0] 0) = some .b ∧ (idle.sect .b).state = .merged ∧
    sectOf? (byteAt [0, 0, 0] 0) = some .a ∧ (idle.sect .a).state ≠ .merged := by
  unfold State.takesFrom; decide

/-- Witness for LevelsReadsAndClears. -/
theorem witness_LevelsReadsAndClears : idle.takesFrom .mdp ∧ ([] : List Byte).length = 0 := ⟨⟨rfl, rfl⟩, rfl⟩

/-- Witness for SeatMapRaisesMismatch: seat 47 made CHAIR with a DELEGATE_UNIT, then each way to raise none. -/
theorem witness_SeatMapRaisesMismatch :
    ((meeting .session).takesFrom .mdp ∧ seatMapFields? [46, 1, 0xFF, 0, 0] = some (46, ⟨.chair, none, 0⟩) ∧
      ((meeting .session).seat 46).map.cls = .delegate ∧
      ((meeting .session).seat 46).kind = some .delegateUnit ∧
      ((meeting .session).port .mdp).notices.length < 16) ∧
    (seatMapFields? [47, 1, 0xFF, 0, 0] = some (47, ⟨.chair, none, 0⟩) ∧
      ((meeting .session).seat 47).map.cls = .chair) ∧
    seatMapFields? [0, 0, 0xFF, 0, 0] = some (0, ⟨.delegate, none, 0⟩) ∧ (idle.seat 46).kind = none := by
  unfold State.takesFrom; decide

/-- Witness for SeatMapSetsOneEntry: the last values in range and the first out of it. -/
theorem witness_SeatMapSetsOneEntry :
    idle.takesFrom .mdp ∧ seatMapFields? [48, 0, 0, 0, 0] = none ∧ seatMapFields? [0, 2, 0, 0, 0] = none ∧
    seatMapFields? [0, 0, 8, 0, 0] = none ∧
    seatMapFields? [47, 1, 7, 0xFF, 0xFF] = some (47, ⟨.chair, some 7, 65535⟩) := by
  unfold State.takesFrom; decide

/-- Witness for ProfileWritesOneProfile: profile 7 and number 8. -/
theorem witness_ProfileWritesOneProfile :
    idle.takesFrom .mdp ∧ profileLengthOk ([8] ++ encProfile factoryProfile) = true ∧
    7 < byteAt ([8] ++ encProfile factoryProfile) 0 ∧
    profileOf? (byteAt ([7] ++ encProfile factoryProfile) 0) = some 7 ∧
    profileFields? ([7] ++ encProfile factoryProfile) = some factoryProfile := by
  unfold State.takesFrom; decide

/-- Witness for StoreWritesOneItemAtATime: each command with and without a write, each kind of write. -/
theorem witness_StoreWritesOneItemAtATime :
    (idle.takesFrom .mdp ∧ 7 < byteAt [8] 0 ∧ profileOf? (byteAt [7] 0) = some 7 ∧ idle.write = none ∧
      ({ idle with write := some (.table factoryTable) } : State).takesFrom .mdp ∧
      ({ idle with write := some (.table factoryTable) } : State).write = some (.table factoryTable)) ∧
    ({ idle with write := some (.map factoryMap) } : State).write = some (.map factoryMap) ∧
    ({ idle with write := some (.profile 7 factoryProfile), tablePending := true } : State).write =
      some (.profile 7 factoryProfile) := by
  unfold State.takesFrom; decide

/-- Witness for FreezeSetsWindowAndGuard: F 240 and 241, G 60 and 61. -/
theorem witness_FreezeSetsWindowAndGuard :
    idle.takesFrom .scp ∧ 240 < byteAt [241, 0] 0 ∧ 60 < byteAt [0, 61] 1 ∧ byteAt [240, 60] 0 ≤ 240 ∧
    byteAt [240, 60] 1 ≤ 60 := by
  unfold State.takesFrom; decide

/-- A LAYOUT payload of one BLANK tile over the whole grid. -/
def blankLayout (sect screen : Byte) : List Byte := [sect, screen, 1, 0, 15, 0, 8, 5, 0xFF, 0, 0]

/-- Witness for LayoutIsWritten: a section, a screen and a column out of range, MERGED section B, section A. -/
theorem witness_LayoutIsWritten :
    (idle.takesFrom .mdp ∧ (blankLayout 0 3).length = 3 + 8 * byteAt (blankLayout 0 3) 2 ∧
      1 ≤ byteAt (blankLayout 0 3) 2 ∧ byteAt (blankLayout 0 3) 2 ≤ 4) ∧
    (sectOf? (byteAt (blankLayout 2 0) 0) = none ∧ screenOf? (byteAt (blankLayout 0 4) 1) = none ∧
      tilesAt [0, 0, 1, 0, 16, 0, 8, 5, 0xFF, 0, 0] 1 3 = none) ∧
    (sectOf? (byteAt (blankLayout 1 0) 0) = some .b ∧ (idle.sect .b).state = .merged) ∧
    (sectOf? (byteAt (blankLayout 0 3) 0) = some .a ∧ screenOf? (byteAt (blankLayout 0 3) 1) = some 3 ∧
      tilesAt (blankLayout 0 3) 1 3 = some [{ factoryTile with content := .blank }] ∧
      (idle.sect .a).state ≠ .merged) := by
  unfold State.takesFrom; decide

/-- Witness for ScreensAreReassigned: codes 1 and 2. -/
theorem witness_ScreensAreReassigned :
    divided.takesFrom .mdp ∧ assignment? [0, 0, 0, 2] = none ∧ assignment? [1, 0, 1, 1] = some #v[.b, .a, .b, .b] := by
  unfold State.takesFrom; decide

/-- Witness for SplitDividesTheTable: K 3, 4, 20 and 21, mode code 2, a table that is free and one that is not,
with and without a change, a CLOSING mic and a write in progress. -/
theorem witness_SplitDividesTheTable :
    (idle.takesFrom .mdp ∧ within? 4 20 (byteAt [3, 0] 0) = none ∧ within? 4 20 (byteAt [21, 0] 0) = none ∧
      modeOf? (byteAt [4, 2] 1) = none) ∧
    (4 ≤ byteAt [4, 1] 0 ∧ byteAt [20, 1] 0 ≤ 20 ∧ modeOf? (byteAt [4, 1] 1) = some .divided ∧
      (meeting .session).tableFree = false ∧ idle.tableFree = true ∧ divided.tableFree = true) ∧
    (idle.mode ≠ .divided ∧ divided.mode = .divided ∧ divided.k ≠ 4 ∧ idle.write = none ∧
      (idle.modSeat 5 fun r => { r with mic := .closing, slot := some 0 }).tableFree = true) ∧
    ({ idle with write := some (.table factoryTable) } : State).write ≠ none := by
  unfold State.takesFrom; decide

/-- A state with the seat at the north position 3 in a presence state with counts, its visit open. -/
def bringing (p : Presence) (count miss : Nat) : State :=
  visiting 3 (idle.modSeat 3 fun r => { r with presence := p, bringUp := count, miss := miss })

/-- The same seat with no visit open and position 3 the next. -/
def calling (p : Presence) : State :=
  { idle.modSeat 3 (fun r => { r with presence := p }) with north := { idle.north with next := 3 } }

/-- Witness for VisitSendsByPresence: the load, an open visit, each presence state. -/
theorem witness_VisitSendsByPresence :
    State.reset.starting = true ∧ ((bringing .ready 0 0).ring .north).visit ≠ none ∧
    ((calling .fault).ring .north).visit = none ∧ (calling .fault).starting = false ∧
    ((calling .fault).seat (seatAt .north 3)).presence = .fault ∧
    ((calling .powering).seat (seatAt .north 3)).presence = .powering ∧
    ((calling .identifying).seat (seatAt .north 3)).presence = .identifying ∧
    ((calling .configuring).seat (seatAt .north 3)).presence = .configuring ∧
    ((calling .ready).seat (seatAt .north 3)).presence = .ready ∧
    (((calling .ready).modSeat 3 fun r => { r with feedLast := silence }).seat 3).feedLast.length = 960 := by
  decide

/-- An answer with the power indicator as given. -/
def powered (good : Bool) : UpMsg := ⟨true, true, 3, good, false, .bare⟩

/-- Witness for AnswersBringASeatUp: each presence state, bring-up counts 6, 7, 98 and 99. -/
theorem witness_AnswersBringASeatUp :
    (((bringing .absent 0 0).ring .north).visit = some 3 ∧ (powered true).checkOk = true ∧
      (powered true).lengthOk = true ∧ (powered true).position = (3 : Fin 24).val ∧
      ((bringing .absent 0 0).seat (seatAt .north 3)).presence = .absent) ∧
    (((bringing .detected 6 0).seat (seatAt .north 3)).bringUp < 7 ∧
      7 ≤ ((bringing .detected 7 0).seat (seatAt .north 3)).bringUp ∧
      ((bringing .detected 7 0).seat (seatAt .north 3)).presence = .detected) ∧
    ((powered true).powerGood = true ∧ (powered false).powerGood = false ∧
      ((bringing .powering 98 0).seat (seatAt .north 3)).bringUp < 99 ∧
      99 ≤ ((bringing .powering 99 0).seat (seatAt .north 3)).bringUp ∧
      ((bringing .powering 99 0).seat (seatAt .north 3)).presence = .powering) ∧
    (((bringing .identifying 0 0).seat (seatAt .north 3)).presence = .identifying ∧
      (reply 3 (.unitKind 1)).content = .unitKind 1 ∧ unitKindOf? 1 = some .chairUnit ∧
      ((bringing .fault 0 0).seat (seatAt .north 3)).presence = .fault) ∧
    ((reply 3 .configAck).content = .configAck ∧ (reply 3 .configAck).configured = true ∧
      ((bringing .configuring 0 0).seat (seatAt .north 3)).presence = .configuring) := by
  decide

/-- Witness for AnswersBringASeatUp, the answers that count as missed: IDENTIFYING with code 2, CONFIGURING with no
acknowledgement and with the indicator clear, READY with a bare answer. -/
theorem witness_AnswersWithoutContentAreMissed :
    (((bringing .identifying 0 0).seat (seatAt .north 3)).presence = .identifying ∧
      (∀ code, (reply 3 (.unitKind 2)).content = .unitKind code → 2 ≤ code)) ∧
    (((bringing .configuring 0 0).seat (seatAt .north 3)).presence = .configuring ∧
      (reply 3 .bare).content ≠ .configAck ∧ (powered true).configured = false) ∧
    (((bringing .ready 0 0).seat (seatAt .north 3)).presence = .ready ∧ (reply 3 .bare).configured = true ∧
      (∀ f e a b m, (reply 3 .bare).content ≠ .ready f e a b m) ∧ (reply 3 .bare).checkOk = true ∧
      (reply 3 .bare).lengthOk = true ∧ (reply 3 .bare).position = (3 : Fin 24).val) := by
  refine ⟨⟨by decide, ?_⟩, ⟨by decide, nofun, by decide⟩, ⟨by decide, rfl, nofun, rfl, rfl, rfl⟩⟩
  intro code h; cases h; decide

/-- Witness for ReadyAnswerIsTaken: one new event, and one that was taken before (sequence 128 behind). -/
theorem witness_ReadyAnswerIsTaken :
    ((visiting 3 (meeting .session)).ring .north).visit = some 3 ∧
    ((visiting 3 (meeting .session)).seat (seatAt .north 3)).presence = .ready ∧
    ((visiting 3 (meeting .session)).seat 3).expectSeq = 0 ∧
    (reply 3 (.ready 0 [.requestPress] none (some 1) silence)).configured = true ∧
    (0 + 256 - 0) % 256 = 0 ∧ (0 + 256 - 128) % 256 = 128 := by
  decide

/-- Witness for LostSeatLeavesTheFloor: the configured indicator clear, two misses before, a RESEAT. -/
theorem witness_LostSeatLeavesTheFloor :
    ((visiting 3 (meeting .session)).seat (seatAt .north 3)).presence = .ready ∧
    ((visiting 3 (meeting .session)).ring .north).visit = some 3 ∧ (powered true).configured = false ∧
    2 ≤ ((visiting 3 (with1 .session 3 fun r => { r with miss := 2 })).seat (seatAt .north 3)).miss ∧
    ((visiting 3 (meeting .session)).port .mdp).notices.length < 16 ∧ (meeting .session).takesFrom .mdp ∧
    byteAt [3] 0 = (seatAt .north 3).val := by
  unfold State.takesFrom; decide

/-- Witness for ReseatRestartsBringUp: seat 48, an ABSENT seat, a seat in FAULT. -/
theorem witness_ReseatRestartsBringUp :
    idle.takesFrom .mdp ∧ 47 < byteAt [48] 0 ∧ seatOf? (byteAt [3] 0) = some 3 ∧
    (idle.seat 3).presence = .absent ∧ (bringing .fault 0 0).takesFrom .mdp ∧
    ((bringing .fault 0 0).seat 3).presence ≠ .absent ∧ ((bringing .fault 0 0).seat 3).presence ≠ .ready := by
  unfold State.takesFrom; decide

/-- Witness for MissedVisitsCount: miss counts 1 and 2, bring-up counts 98 and 99, each presence state. -/
theorem witness_MissedVisitsCount :
    (((bringing .absent 0 0).ring .north).visit = some 3 ∧
      ((bringing .absent 0 0).seat (seatAt .north 3)).presence = .absent) ∧
    (((bringing .detected 3 1).seat (seatAt .north 3)).presence ≠ .absent ∧
      ((bringing .detected 3 1).seat (seatAt .north 3)).miss < 2 ∧
      2 ≤ ((bringing .detected 3 2).seat (seatAt .north 3)).miss) ∧
    (((bringing .powering 98 2).seat (seatAt .north 3)).presence = .powering ∧
      ((bringing .powering 98 2).seat (seatAt .north 3)).bringUp < 99 ∧
      99 ≤ ((bringing .powering 99 0).seat (seatAt .north 3)).bringUp) ∧
    (((bringing .identifying 0 2).seat (seatAt .north 3)).presence = .identifying ∧
      ((bringing .configuring 0 2).seat (seatAt .north 3)).presence = .configuring ∧
      ((bringing .fault 0 2).seat (seatAt .north 3)).presence = .fault) := by
  decide

/-- Witness for MissedVisitsCount, the messages that are no answer: no visit, and each thing that is wrong. -/
theorem witness_OtherMessagesAreDiscarded :
    (idle.ring .north).visit = none ∧ ((bringing .ready 0 0).ring .north).visit = some 3 ∧
    (⟨false, true, 3, true, true, .bare⟩ : UpMsg).checkOk = false ∧
    (⟨true, false, 3, true, true, .bare⟩ : UpMsg).lengthOk = false ∧ (reply 4 .bare).position ≠ (3 : Fin 24).val := by
  decide

/-- Witness for MixArithmetic: the limits of the range, a SUSPENDED seat at level 0, seats of one side and of two. -/
theorem witness_MixArithmetic :
    ((-8388609 : Int) < -8388608 ∧ (8388607 : Int) < 8388608 ∧ (32 : Nat) ≤ 32) ∧
    ((with1 .session 5 fun r => { r with mic := .suspended, slot := some 0, ramp := 0 }).seat 5).mic = .suspended ∧
    ((with1 .session 5 fun r => { r with mic := .suspended, slot := some 0, ramp := 0 }).seat 5).ramp = 0 ∧
    seatSide 0 = seatSide 23 ∧ seatSide 0 ≠ seatSide 24 ∧ (0 : Seat) ≠ 24 := by
  decide

/-- Witness for FrameComputesBusesAndFeeds: the load; a frame before the last of its cycle, and the last; a frame that
steps no ramp. -/
theorem witness_FrameComputesBusesAndFeeds :
    State.reset.starting = true ∧ mixTable.starting = false ∧ mixTable.place < 959 ∧
    (959 : Nat) ≤ ({ mixTable with place := 959 } : State).place ∧
    ({ mixTable with place := 959 } : State).starting = false ∧ mixTable.frameCount ≠ 15 := by decide

/-- Witness for FrameCountAdvances: the last frame of the cycle, a frame that steps no ramp, another command. -/
theorem witness_FrameCountAdvances :
    ({ idle with place := 959 } : State).starting = false ∧ ({ idle with place := 959 } : State).place ≤ 959 ∧
    mixTable.frameCount ≠ 15 ∧ Instr.secondTick ≠ .audioFrame ∧ Instr.secondTick ≠ .rampStep ∧
    Instr.secondTick ≠ .hardwareReset ∧ exec .hardwareReset idle = .next (after .hardwareReset idle) ∧
    exec .secondTick idle = .next (after .secondTick idle) :=
  ⟨rfl, by decide, by decide, by decide, by decide, by decide, rfl, rfl⟩

/-- Witness for RampsStep: a step frame with seats in each mic state, and a frame that is none. -/
theorem witness_RampsStep :
    ({ mixTable with place := 959 } : State).starting = false ∧
    ({ mixTable with place := 959 } : State).frameCount = 15 ∧ (mixTable.seat 3).mic = .active ∧
    (mixTable.seat 4).mic = .closed ∧
    ((mixTable.modSeat 4 fun r => { r with mic := .closing, slot := some 2, ramp := 1 }).seat 4).mic = .closing ∧
    mixTable.frameCount ≠ 15 := by decide

/-- A state whose two queues are empty meets QueuesFit. -/
theorem queuesFit_of_empty {s : State} (a : s.secA.queue = []) (b : s.secB.queue = []) : QueuesFit s := by
  have q : ∀ x, (s.sect x).queue = [] := fun x => by cases x <;> assumption
  refine ⟨fun x e h => ?_, fun x => ?_, fun x _ => q x⟩
  · rw [q x] at h; cases h
  · rw [q x]; exact List.nodup_nil

/-- The relations of MicFits, as one fact about every seat that can be decided. -/
theorem micsFit_of {s : State} (h : ∀ i : Seat, (s.seat i).slot.isSome = (s.seat i).mic.holdsSlot ∧
      (s.seat i).stamp.isSome = (s.seat i).mic.onFloor ∧ (s.seat i).ramp ≤ 32 ∧
      ((s.seat i).mic = .closed ∨ (s.seat i).mic = .pending → (s.seat i).ramp = 0) ∧
      ((s.seat i).byPriority = true → (s.seat i).mic.onFloor = true) ∧
      ((s.seat i).turn.isSome = true → (s.seat i).mic = .active ∨ (s.seat i).mic = .suspended)) : MicsFit s :=
  fun i => ⟨(h i).1, (h i).2.1, (h i).2.2.1, (h i).2.2.2.1, (h i).2.2.2.2.1, (h i).2.2.2.2.2⟩

/-- The queue of Table 4-7 meets QueuesFit. -/
theorem queuesFit_table47 : QueuesFit table47 := by
  refine ⟨fun x => ?_, fun x => ?_, fun x => ?_⟩ <;> cases x <;> decide

/-- Table 4-7's floor with an empty queue. -/
def twoSpeak : State := table47.modSect .a fun r => { r with queue := [] }

/-- Priority held by the console alone, over a SUSPENDED delegate, with a mode. -/
def muted (m : PriorityMode) : State :=
  (meeting .session).modSect .a (fun r =>
    { r with console := true, settings := { r.settings with prioMode := m } }) |>.modSeat 3 fun r =>
      { speaking r with mic := .suspended }

/-- A seat with a fade complete report to be taken. -/
def faded (m : Mic) : State := with1 .session 5 fun r => { r with mic := m, slot := some 0, fadeReport := some 2 }

/-- A seat that waits for a slot. -/
def waitingFor (stamp : Nat) (r : SeatRec) : SeatRec := { r with mic := .pending, stamp := some stamp }

/-- Witness for FadeCompletionFreesTheSlot: no report; a report to a CLOSING, a CLOSED and an ACTIVE seat, the first
of those that wait; and for the slot arbiter a delegate and a chair that wait while a slot is free. -/
theorem witness_FadeCompletionFreesTheSlot :
    (idle.seat 5).fadeReport = none ∧ QueuesFit (faded .closing) ∧ QueuesFit (faded .closed) ∧
    QueuesFit (faded .active) ∧
    (((faded .closing).seat 5).fadeReport = some 2 ∧ ((faded .closing).seat 5).mic = .closing ∧
      (∀ h, ((faded .closing).seat h).fadeReport.isSome = true → (5 : Seat) ≤ h)) ∧
    (((faded .closed).seat 5).fadeReport = some 2 ∧ ((faded .closed).seat 5).mic = .closed) ∧
    (((faded .active).seat 5).fadeReport = some 2 ∧ ((faded .active).seat 5).mic = .active ∧
      ((faded .active).sect ((faded .active).sectionOf 5)).state ≠ .overrun) ∧
    (MicsFit ((with1 .session 5 (waitingFor 2)).modSeat 24 (waitingFor 3)) ∧
      ((with1 .session 5 (waitingFor 2)).modSeat 24 (waitingFor 3)).freeSlot .a = some 0 ∧
      ((with1 .session 5 (waitingFor 2)).modSeat 24 (waitingFor 3)).eligible .a 5 ∧
      ((with1 .session 5 (waitingFor 2)).modSeat 24 (waitingFor 3)).eligible .a 24) := by
  refine ⟨rfl, queuesFit_of_empty rfl rfl, queuesFit_of_empty rfl rfl, queuesFit_of_empty rfl rfl, by decide, by decide,
    by decide, micsFit_of (by decide), ?_⟩
  unfold State.eligible; decide

/-- Witness for CountEventCounts: a turn that counts, an unlimited one, a held one, one at 0 under CLOSE, one at
−3600, and EXPIRED at 1. -/
theorem witness_CountEventCounts :
    ((meeting .session).starting = false ∧ (meeting .session).sectionOf 7 = .a ∧
      ((with1 .session 7 (turning 31)).seat 7).mic = .active ∧
      ((with1 .session 7 (turning 31)).seat 7).turn = some ⟨120, 31, false, false, false⟩ ∧
      ((with1 .session 7 (turning 31)).sect .a).clockHold = false ∧
      ((with1 .session 7 (turning 31)).sect .a).settings.expiry = .notify) ∧
    (((meeting .session).seat 8).mic ≠ .active ∧ (with1 .session 7 (turning 1)).expiresNext 7 = true ∧
      ((with1 .session 7 (turning (-3600))).seat 7).turn = some ⟨120, -3600, false, false, false⟩) ∧
    ((session fun r => { r with clockHold := true }).sect .a).clockHold = true ∧
    ((session fun r => { r with settings := { r.settings with expiry := .close } }).sect .a).settings.expiry =
      .close := by
  decide

/-- Witness for CountEventCounts, the notices: ports inside and outside the section's chair ports, and seats at the
second of the cap, of the warning and of expiry. -/
theorem witness_CountEventNotices :
    (meeting .session).starting = false ∧ Port.cpa ∈ (meeting .session).chairPorts .a ∧
    Port.scp ∉ (meeting .session).chairPorts .a ∧
    ((with1 .session 7 (turning 31)).seat 7).cumul + 1 = 96 ∧
    ((with1 .session 7 (turning 1)).seat 7).turn = some ⟨120, 1, false, false, false⟩ ∧
    ((meeting .session).sect .a).settings.warn = 30 := by decide

/-- A seat with a turn whose expiry has been reported. -/
def reported (m : Mic) : State := with1 .session 7 fun r =>
  { r with mic := m, slot := some 0, stamp := some 1, ramp := 32, turn := some ⟨120, 0, true, true, true⟩ }

/-- Witness for ExpiryReportCloses: no turn, no report, a report to a SUSPENDED and to an ACTIVE seat. -/
theorem witness_ExpiryReportCloses :
    State.reset.starting = true ∧ (meeting .session).expiresNext 7 = false ∧
    ((meeting .session).seat 7).turn = none ∧
    ((with1 .session 7 (turning 5)).seat 7).turn = some ⟨120, 5, false, false, false⟩ ∧
    ((reported .suspended).seat 7).mic ≠ .active ∧
    ((reported .active).seat 7).turn = some ⟨120, 0, true, true, true⟩ ∧
    ((reported .active).seat 7).mic = .active ∧ QueuesFit (reported .active) ∧
    (reported .active).queueEntry ((reported .active).sectionOf 7) 7 = none :=
  ⟨rfl, by decide, rfl, rfl, by decide, rfl, rfl, queuesFit_of_empty rfl rfl, by decide⟩

/-- Witness for SessionEndsFreeTheSection: both expiries with and without effect, END of a running section and of
a free one. -/
theorem witness_SessionEndsFreeTheSection :
    (((meeting .grace).modSect .a fun r => { r with grace := .runOut }).sect .a).state = .grace ∧
    (((meeting .grace).modSect .a fun r => { r with grace := .runOut }).sect .a).grace = .runOut ∧
    ((session fun r => { r with idle := .runOut }).sect .a).state = .session ∧
    ((session fun r => { r with idle := .runOut }).sect .a).idle = .runOut ∧
    (idle.sect .a).state ≠ .grace ∧ (idle.sect .a).idle ≠ .runOut ∧
    (meeting .session).takesFrom .cpa ∧ (meeting .session).commanded .cpa = some .a ∧
    ((meeting .session).sect .a).state.running = true ∧ idle.commanded .cpa = some .a ∧
    (idle.sect .a).state.running = false := by
  unfold State.takesFrom; decide

/-- The answer with one REQUEST press of the seat at north position 7. -/
def press : UpMsg := ⟨true, true, 7, true, true, .ready 0 [.requestPress] none none silence⟩

/-- The visit of seat 7 open in a meeting with section A changed. -/
def pressing (f : SectRec → SectRec) : State := visiting 7 (session f)

/-- Witness for KeyPressIsDecided: an idle seat at the cap, one that must wait, one that is granted, and a
speaking one. -/
theorem witness_KeyPressIsDecided :
    (((pressing id).ring .north).visit = some 7 ∧ press.position = (7 : Fin 24).val ∧ press.configured = true ∧
      ((pressing id).seat (seatAt .north 7)).presence = .ready ∧
      ((pressing id).seat (seatAt .north 7)).expectSeq = 0 ∧
      ((pressing id).sect .a).state = .session ∧ ((pressing id).seat (seatAt .north 7)).isDelegate = true ∧
      ((pressing id).sect .a).settings.keyMode = .press) ∧
    (((pressing id).seat 7).mic = .closed ∧ (pressing id).queueEntry .a 7 = none ∧
      (pressing id).capReached .a 7 = false ∧ (pressing id).priorityOn .a = false ∧
      ((pressing id).sect .a).settings.floorMode = .queue ∧ ((pressing id).sect .a).queue = [] ∧
      (pressing id).delegateCount .a < ((pressing id).sect .a).settings.limit) ∧
    ((pressing fun r => { r with console := true }).priorityOn .a = true ∧
      ((pressing fun r => { r with console := true }).sect .a).queue.length < 24) ∧
    ((pressing fun r => { r with settings := { r.settings with cap := 1 } }).modSeat 7 fun r =>
      { r with cumul := 60 }).capReached .a 7 = true ∧
    (((pressing id).modSeat 7 speaking).seat 7).mic = .active := by
  decide

/-- The answer of a north seat with one key event. -/
def keyed (p : Fin 24) (e : KeyEvent) : UpMsg := ⟨true, true, p.val, true, true, .ready 0 [e] none none silence⟩

/-- The floor settings of a section replaced. -/
def floorSet (m : FloorMode) (o : Bool) (limit : Nat) (key : KeyMode) (r : SectRec) : SectRec :=
  { r with settings := { r.settings with floorMode := m, override := o, limit := limit, keyMode := key } }

/-- A key event arrives from a seat of the north side in a meeting whose records of seat and section are as given. -/
theorem keyArrives {s : State} {p : Fin 24} (e : KeyEvent) (h : (s.seat (seatAt .north p)).presence = .ready)
    (q : (s.seat (seatAt .north p)).expectSeq = 0) : KeyArrives .north p (keyed p e) e (visiting p s) :=
  ⟨rfl, rfl, rfl, rfl, rfl, h, by change (s.seat (seatAt .north p)).expectSeq < 256; omega,
    by change some (0, e) = some ((s.seat (seatAt .north p)).expectSeq, e); rw [q]⟩

/-- N3 speaks, and the floor is in OPEN mode at its limit of 1. -/
def full (o : Bool) (key : KeyMode) : State :=
  (session (floorSet .open_ o 1 key)).modSeat 3 speaking

/-- N7 with an entry in the queue, a key mode set. -/
def entered (key : KeyMode) : State :=
  session fun r => { floorSet .queue false 6 key r with queue := [⟨7, .normal, 3⟩] }

/-- Witness for KeyPressIsDecided, the delegate's other keys: a queued seat and a SUSPENDED one; OPEN mode at the limit with
and without override; PTT refused for the cap, the mode, the queue and the limit, granted, by override, and on the
floor; a release in each key mode. -/
theorem witness_DelegateKeysAreDecided :
    (KeyArrives .north 7 (keyed 7 .requestPress) .requestPress (visiting 7 (entered .toggle)) ∧
      (entered .toggle).queueEntry .a 7 ≠ none ∧ ((entered .toggle).sect .a).settings.keyMode ≠ .ptt ∧
      ((meeting .session).sect .a).state = .session ∧ ((entered .toggle).seat 7).isDelegate = true ∧
      ((entered .toggle).seat 7).isChair = false ∧ ((entered .toggle).seat 7).mic = .closed) ∧
    ((muted .mute).seat 3).mic = .suspended ∧
    (KeyArrives .north 7 (keyed 7 .requestPress) .requestPress (visiting 7 (full true .press)) ∧
      QueuesFit (visiting 7 (full true .press)) ∧ (full true .press).delegateCount .a = 1 ∧
      (full true .press).capReached .a 7 = false ∧ (full true .press).priorityOn .a = false ∧
      ((full true .press).sect .a).settings.override = true ∧ (full true .press).speaksAsDelegate .a 3 ∧
      (∀ h, (full true .press).speaksAsDelegate .a h → h ≠ 3 → olderStamp (full true .press) 3 h = true) ∧
      ((full false .press).sect .a).settings.override = false) ∧
    (((full false .ptt).sect .a).settings.keyMode = .ptt ∧ (full false .ptt).delegateCount .a = 1 ∧
      ((session (floorSet .chair false 6 .ptt)).sect .a).settings.floorMode = .chair ∧
      (session (floorSet .queue false 6 .ptt)).delegateCount .a < 6 ∧
      ((session (floorSet .queue false 6 .ptt)).sect .a).queue = [] ∧
      (⟨7, .normal, 3⟩ : QEntry) ∈ ((entered .ptt).sect .a).queue ∧ ((full true .ptt).seat 3).mic = .active ∧
      (full true .ptt).queueEntry .a 3 = none) ∧
    KeyArrives .north 3 (keyed 3 .requestRelease) .requestRelease (visiting 3 (full true .ptt)) := by
  refine ⟨⟨keyArrives _ rfl rfl, by decide⟩, rfl, ⟨keyArrives _ rfl rfl, queuesFit_of_empty rfl rfl, by decide, by decide,
    by decide, rfl, ⟨rfl, rfl, by decide⟩, ?_, rfl⟩, by decide, keyArrives _ rfl rfl⟩
  unfold State.speaksAsDelegate; decide

/-- Priority held by chair N0 alone, over a SUSPENDED delegate, with a mode. -/
def held (m : PriorityMode) : State :=
  ((muted m).modSect .a fun r => { r with holders := [0], console := false }).modSeat 0 fun r =>
    { speaking r with slot := some 1, stamp := some 2, byPriority := true }

/-- Witness for KeyPressIsDecided, a chair's keys: REQUEST and PRIORITY of a CLOSED chair over a speaking delegate, and
the keys of one that holds priority alone over a SUSPENDED delegate, under MUTE and CANCEL. -/
theorem witness_ChairKeysAreDecided :
    (KeyArrives .north 0 (keyed 0 .requestPress) .requestPress (visiting 0 twoSpeak) ∧
      KeyArrives .north 0 (keyed 0 .requestRelease) .requestRelease (visiting 0 twoSpeak) ∧
      KeyArrives .north 0 (keyed 0 .priorityPress) .priorityPress (visiting 0
        (twoSpeak.modSeat 0 fun r => { r with kind := some .chairUnit })) ∧ QueuesFit (visiting 0 twoSpeak) ∧
      (twoSpeak.sect .a).state.floorOpen = true ∧ (twoSpeak.sect .a).state ≠ .overrun ∧
      (twoSpeak.seat 0).isChair = true ∧ (twoSpeak.seat 0).mic = .closed ∧ (twoSpeak.sect .a).queue = [] ∧
      twoSpeak.priorityOn .a = false ∧ (twoSpeak.seat 3).mic = .active ∧ (twoSpeak.seat 3).isDelegate = true) ∧
    (KeyArrives .north 0 (keyed 0 .priorityRelease) .priorityRelease (visiting 0 (held .mute)) ∧
      QueuesFit (held .mute) ∧ ((held .mute).sect .a).holders = [0] ∧ ((held .mute).sect .a).console = false ∧
      ((held .mute).seat 0).byPriority = true ∧ ((held .mute).seat 0).mic = .active ∧
      ((held .mute).seat 3).mic = .suspended ∧ ((held .cancel).seat 3).mic = .suspended ∧
      ((held .mute).sect .a).settings.prioMode = .mute ∧ ((held .cancel).sect .a).settings.prioMode = .cancel) :=
  ⟨⟨keyArrives _ rfl rfl, keyArrives _ rfl rfl, keyArrives _ rfl rfl, queuesFit_of_empty rfl rfl, by decide⟩,
    keyArrives _ rfl rfl, queuesFit_of_empty rfl rfl, by decide⟩

/-- A meeting in OVERRUN with N3 speaking. -/
def overrunning : State := (meeting .overrun).modSeat 3 speaking

/-- Witness for KeyPressIsDecided, the section's state: FREE, MERGED, GRACE with a press and with a release, a PRIORITY
event of a DELEGATE_UNIT, and OVERRUN with an idle seat and with the last that speaks. -/
theorem witness_KeysFollowTheState :
    ((idle.sect .a).state = .free ∧ (idle.sect .b).state = .merged ∧ ((meeting .grace).sect .a).state = .grace ∧
      ((meeting .grace).seat 7).kind = some .delegateUnit) ∧
    (KeyArrives .north 7 (keyed 7 .requestPress) .requestPress
        (visiting 7 ((meeting .grace).modSect .a (floorSet .open_ false 6 .press))) ∧
      QueuesFit (visiting 7 ((meeting .grace).modSect .a (floorSet .open_ false 6 .press))) ∧
      (meeting .grace).capReached .a 7 = false ∧ (meeting .grace).delegateCount .a < 6) ∧
    (KeyArrives .north 7 (keyed 7 .requestPress) .requestPress (visiting 7 overrunning) ∧
      KeyArrives .north 3 (keyed 3 .requestPress) .requestPress (visiting 3 overrunning) ∧
      QueuesFit (visiting 3 overrunning) ∧ overrunning.speakingDelegates .a = 1 ∧ (overrunning.sect .a).state = .overrun ∧
      (overrunning.sect .a).settings.keyMode ≠ .ptt ∧ (overrunning.seat 3).mic = .active ∧
      (∀ j, (overrunning.seat j).mic ≠ .pending ∧ (j ≠ 3 → (overrunning.seat j).mic.onFloor = false))) :=
  ⟨by decide, ⟨keyArrives _ rfl rfl, queuesFit_of_empty rfl rfl, by decide⟩,
    ⟨keyArrives _ rfl rfl, keyArrives _ rfl rfl, queuesFit_of_empty rfl rfl, by decide⟩⟩

/-- Witness for GrantAndNextGiveTheFloor: GRANT out of range, barred, at the limit, and taken; NEXT refused, with
an empty queue, at the limit, and taken; a CLOSED mic with a free slot. -/
theorem witness_GrantAndNextGiveTheFloor :
    QueuesFit (meeting .session) ∧ QueuesFit table47 ∧
    ((meeting .session).takesFrom .cpa ∧ (meeting .session).commanded .cpa = some .a ∧
      seatOf? (byteAt [48] 0) = none ∧ seatOf? (byteAt [47] 0) = some 47 ∧ (meeting .session).sectionOf 47 = .a ∧
      ((meeting .session).sect .a).state.floorOpen = true ∧ (meeting .session).priorityOn .a = false ∧
      ((meeting .session).seat 47).isChair = false ∧ ((meeting .session).seat 47).presence = .ready ∧
      ((meeting .session).seat 47).mic.onFloor = false ∧
      (meeting .session).delegateCount .a < ((meeting .session).sect .a).settings.limit) ∧
    (divided.sectionOf 47 ≠ .a ∧ (idle.sect .a).state.floorOpen = false ∧
      ((meeting .session).seat 0).isChair = true ∧ (table47.sect .a).settings.limit ≤ table47.delegateCount .a) ∧
    (((meeting .session).sect .a).queue = [] ∧ ((meeting .session).sect .a).state = .session ∧
      (table47.sect .a).queue = ⟨7, .normal, 9⟩ :: [⟨26, .normal, 10⟩, ⟨32, .normal, 11⟩] ∧
      (table47.modSect .a fun r => { r with settings := { r.settings with limit := 3 } }).delegateCount .a < 3 ∧
      table47.sectionOf 7 = .a ∧ (table47.seat 7).mic = .closed) ∧
    (table47.freeSlot .a = some 2 ∧ (table47.seat 9).mic = .closed) :=
  ⟨queuesFit_of_empty rfl rfl, queuesFit_table47, by unfold State.takesFrom; decide⟩

/-- Witness for DenyAndPromoteOneEntry: a section that is not open, a seat with no entry on the floor and off it, a
NORMAL entry and a PROMOTED one. -/
theorem witness_DenyAndPromoteOneEntry :
    QueuesFit table47 ∧ QueuesFit idle ∧ table47.takesFrom .cpa ∧ table47.commanded .cpa = some .a ∧
    seatOf? (byteAt [7] 0) = some 7 ∧ table47.sectionOf 7 = .a ∧ (idle.sect .a).state.floorOpen = false ∧
    (table47.sect .a).state.floorOpen = true ∧ table47.queueEntry .a 5 = none ∧ table47.queueEntry .a 9 = none ∧
    table47.queueEntry .a 7 = some ⟨7, .normal, 9⟩ ∧ (table47.sect .a).state ≠ .overrun ∧
    (after (.promote .cpa [7]) table47).queueEntry .a 7 = some ⟨7, .promoted, 9⟩ :=
  ⟨queuesFit_table47, queuesFit_of_empty rfl rfl, by unfold State.takesFrom; decide⟩

/-- Witness for CloseAndCloseAll: a section that is not open, a seat outside, one not on the floor, one on it. -/
theorem witness_CloseAndCloseAll :
    QueuesFit twoSpeak ∧ twoSpeak.takesFrom .cpa ∧ twoSpeak.commanded .cpa = some .a ∧
    (idle.sect .a).state.floorOpen = false ∧ (twoSpeak.sect .a).state.floorOpen = true ∧
    (∀ i, (twoSpeak.seat i).mic.onFloor = true → twoSpeak.queueEntry .a i = none) ∧
    seatOf? (byteAt [3] 0) = some 3 ∧ divided.sectionOf 12 ≠ .a ∧ twoSpeak.sectionOf 3 = .a ∧
    (twoSpeak.seat 9).mic.onFloor = false ∧ (twoSpeak.seat 3).mic.onFloor = true :=
  ⟨queuesFit_of_empty rfl rfl, by unfold State.takesFrom; decide⟩

/-- Witness for CloseAndCloseAll, the advance: a queue of waiting seats below the limit, a CLOSEALL with delegates on the
floor, and a section in CHAIR mode whose queue does not advance. -/
theorem witness_QueueAdvances :
    QueuesFit table47 ∧
    (∀ e, e ∈ (table47.sect .a).queue → (table47.seat e.seat).mic = .closed ∨ (table47.seat e.seat).mic = .closing) ∧
    (table47.sect .a).settings.floorMode ≠ .chair ∧ table47.priorityOn .a = false ∧
    (table47.sect .a).state = .session ∧ table47.takesFrom .cpa ∧ table47.commanded .cpa = some .a ∧
    (table47.seatsWhere .a fun r => r.isDelegate && r.mic.onFloor) ≠ [] ∧
    ((session (floorSet .chair false 6 .press)).sect .a).settings.floorMode = .chair ∧
    (table47.capReached .a 7 = false) :=
  ⟨queuesFit_table47, by unfold State.takesFrom; decide⟩

/-- Witness for PrioritySuspendsAndResumes: a value of 2, a free section, on over speaking delegates, off under
MUTE and under CANCEL. -/
theorem witness_PrioritySuspendsAndResumes :
    QueuesFit twoSpeak ∧ QueuesFit (muted .mute) ∧ QueuesFit (muted .cancel) ∧
    (twoSpeak.takesFrom .cpa ∧ twoSpeak.commanded .cpa = some .a ∧ 1 < byteAt [2] 0 ∧ byteAt [1] 0 = 1 ∧
      (idle.sect .a).state.floorOpen = false ∧ (twoSpeak.sect .a).state.floorOpen = true ∧
      (twoSpeak.sect .a).state ≠ .overrun ∧ twoSpeak.priorityOn .a = false ∧
      (twoSpeak.seat 3).isDelegate = true ∧ (twoSpeak.seat 3).mic = .active) ∧
    ((muted .mute).takesFrom .cpa ∧ (muted .mute).commanded .cpa = some .a ∧ byteAt [0] 0 = 0 ∧
      (∀ i, ((muted .mute).seat i).mic.onFloor = true → (muted .mute).queueEntry .a i = none) ∧
      ((muted .mute).sect .a).console = true ∧ ((muted .mute).sect .a).holders = [] ∧
      ((muted .mute).seat 3).mic = .suspended ∧ ((muted .mute).sect .a).settings.prioMode = .mute) ∧
    (((muted .cancel).seat 3).mic = .suspended ∧ ((muted .cancel).sect .a).settings.prioMode = .cancel) :=
  ⟨queuesFit_of_empty rfl rfl, queuesFit_of_empty rfl rfl, queuesFit_of_empty rfl rfl, by
    unfold State.takesFrom; decide⟩

/-- Witness for FloorWritesTheFloorPart: a free section, each field out of range, a limit below the delegate
count, limits 2 and 6. -/
theorem witness_FloorWritesTheFloorPart :
    QueuesFit twoSpeak ∧ twoSpeak.takesFrom .cpa ∧ twoSpeak.commanded .cpa = some .a ∧
    (idle.sect .a).state.running = false ∧ (twoSpeak.sect .a).state.running = true ∧
    2 < byteAt [3, 0, 1, 0] 0 ∧ 1 < byteAt [0, 2, 1, 0] 1 ∧ byteAt [0, 0, 0, 0] 2 < 1 ∧
    6 < byteAt [0, 0, 7, 0] 2 ∧ 2 < byteAt [0, 0, 1, 3] 3 ∧ floorModeOf? (byteAt [2, 1, 6, 2] 0) = some .chair ∧
    flagOf? (byteAt [2, 1, 6, 2] 1) = some true ∧ byteAt [2, 1, 6, 2] 2 ≤ 6 ∧
    keyModeOf? (byteAt [2, 1, 6, 2] 3) = some .toggle ∧ byteAt [0, 0, 1, 0] 2 < twoSpeak.delegateCount .a ∧
    twoSpeak.delegateCount .a ≤ byteAt [0, 0, 2, 0] 2 ∧ (twoSpeak.sect .a).state ≠ .overrun :=
  ⟨queuesFit_of_empty rfl rfl, by unfold State.takesFrom; decide⟩

/-- Witness for AddTimeAndClock: CLOCK 2, 1 and in a free section; ADDTIME of 9, 10, 600 and 601 seconds, with no
turn, an unlimited one, one expired at 0 under CLOSE, one at the cap, and one that takes it. -/
theorem witness_AddTimeAndClock :
    ((meeting .session).takesFrom .cpa ∧ (meeting .session).commanded .cpa = some .a ∧ 1 < byteAt [2] 0 ∧
      byteAt [1] 0 ≤ 1 ∧ (idle.sect .a).state.floorOpen = false ∧
      ((meeting .session).sect .a).state.floorOpen = true) ∧
    (seatOf? (byteAt [7, 0, 9] 0) = some 7 ∧ word16At [7, 0, 9] 1 < 10 ∧ 600 < word16At ([7] ++ enc16 601) 1 ∧
      10 ≤ word16At [7, 0, 10] 1 ∧ word16At ([7] ++ enc16 600) 1 ≤ 600) ∧
    (((meeting .session).seat 7).turn = none ∧
      ((with1 .session 7 fun r => { speaking r with turn := some ⟨0, 0, false, false, false⟩ }).seat 7).turn =
        some ⟨0, 0, false, false, false⟩ ∧
      ((reported .active).seat 7).turn = some ⟨120, 0, true, true, true⟩ ∧
      ((session fun r => { r with settings := { r.settings with expiry := .close } }).sect .a).settings.expiry =
        .close ∧
      ((session fun r => { r with settings := { r.settings with cap := 1 } }).modSeat 7 fun r =>
        { r with cumul := 60 }).capReached .a 7 = true ∧
      (with1 .session 7 (turning (-15))).capReached .a 7 = false) := by
  unfold State.takesFrom; decide

/-- Witness for ShareAndUnshare: from the MDP and from CPA; a free section, a seat that owns no source, one that
does; an EXPLICIT presenter. -/
theorem witness_ShareAndUnshare :
    shares.takesFrom .mdp ∧ shares.takesFrom .cpa ∧ shares.commanded .cpa = some .a ∧
    seatOf? (byteAt [4] 0) = some 4 ∧ shares.sectionOf 4 = .a ∧ (idle.sect .a).state.running = false ∧
    (shares.sect .a).state.running = true ∧ (shares.seat 4).presence = .ready ∧ shares.ownsSource 33 = none ∧
    shares.ownsSource 4 = some 2 ∧ sectOf? (byteAt [0] 0) = some .a ∧
    ((shares.modSect .a fun r => { r with presenter := some (4, .explicit) }).sect .a).presenter =
      some (4, .explicit) := by
  unfold State.takesFrom; decide

/-- Witness for FloorCommandsStayInTheirSection: GRANT, the first of its codes, and UNSHARE, the last. -/
theorem witness_FloorCommandsStayInTheirSection :
    QueuesFit table47 ∧ request? (.grant .cpa [9]) = some (.cpa, 0x24, [9]) ∧
    request? (.unshare .cpa [0]) = some (.cpa, 0x2F, [0]) ∧ (Instr.grant .cpa [9]).wellFormed = true ∧
    table47.takesFrom .cpa ∧ table47.commanded .cpa = some .a ∧ 0x24 ≤ (0x24 : Byte).toNat ∧
    (0x2F : Byte).toNat ≤ 0x2F ∧ tableCodes.contains (0x24 : Byte).toNat = true :=
  ⟨queuesFit_table47, by unfold State.takesFrom; decide⟩

/-- Witness for WalkInStartsASession: span code 3, profiles 7 and 8, a busy table, a length out of range, an open
walk-in and one with an end, from the lead port and from the other. -/
theorem witness_WalkInStartsASession :
    (idle.takesFrom .cpb ∧ portHalf .cpb = some .b ∧ idle.commanded .cpb = none ∧ idle.secA.state = .free ∧
      idle.commanded .cpa ≠ none) ∧
    (walkInSpan? .b (byteAt [3, 0, 0, 0] 0) = none ∧ profileOf? (byteAt [2, 0, 0, 8] 3) = none ∧
      walkInSpan? .b (byteAt [2, 0, 0, 7] 0) = some .joined ∧ profileOf? (byteAt [2, 0, 0, 7] 3) = some 7) ∧
    ((meeting .session).walkInFree .a .joined = false ∧ idle.walkInFree .b .joined = true) ∧
    (idle.walkInInterval .joined (word16At [2, 0, 4, 0] 1) = .error .range ∧
      idle.walkInInterval .joined (word16At [2, 0, 0, 0] 1) = .ok (none, none) ∧
      ({ idle with minute := some 1000 } : State).walkInInterval .joined (word16At [2, 0, 30, 0] 1) =
        .ok (some 1000, some 1030)) := by
  unfold State.takesFrom
  refine ⟨by decide, by decide, by decide, ?_⟩
  refine ⟨rfl, rfl, rfl⟩

/-- Witness for CheckInEntersSession: from the port that commands the section and from the SCP, in GRACE and not. -/
theorem witness_CheckInEntersSession :
    (meeting .grace).takesFrom .cpa ∧ (meeting .grace).commanded .cpa = some .a ∧
    (meeting .grace).takesFrom .scp ∧ sectOf? (byteAt [0] 0) = some .a ∧ 1 < byteAt [2] 0 ∧
    ((meeting .grace).sect .a).state = .grace ∧ ((meeting .session).sect .a).state ≠ .grace := by
  unfold State.takesFrom; decide

/-- A meeting whose running booking has an end minute, and the next a start. -/
def ending (stop : Option Nat) (next : Nat) : State :=
  { meeting .session with bookings := [{ running with stop := stop }, { waiting with start := some next }] }

/-- Witness for ExtendMovesTheEnd: x of 0, 1, 120 and 121, a free section, an open end, an end past the last minute,
a conflict, an extension that is free. -/
theorem witness_ExtendMovesTheEnd :
    ((ending (some 1060) 1200).takesFrom .cpa ∧ (ending (some 1060) 1200).commanded .cpa = some .a ∧
      byteAt [0] 0 < 1 ∧ 120 < byteAt [121] 0 ∧ 1 ≤ byteAt [1] 0 ∧ byteAt [120] 0 ≤ 120 ∧
      (idle.sect .a).state = .free ∧ ((ending (some 1060) 1200).sect .a).state = .session) ∧
    ((ending none 1200).runningBooking .a = some { running with stop := none } ∧
      spanSection running.span = .a ∧ (ending (some 1060) 1200).runningBooking .a = some running ∧
      (ending (some 4294967294) 1200).runningBooking .a = some { running with stop := some 4294967294 } ∧
      (4294967294 : Nat) < 4294967294 + 1) ∧
    ((ending (some 1060) 1200).conflicting (some 1) .joined (some 1000) (some (1060 + 120)) = [] ∧
      (ending (some 1060) 1179).conflicting (some 1) .joined (some 1000) (some (1060 + 120)) ≠ []) := by
  unfold State.takesFrom; decide

/-- Witness for SetTimeSetsTableTime: the largest minute and one more, second 60, a change of 301 seconds and one of
300 while a section runs. -/
theorem witness_SetTimeSetsTableTime :
    (idle.takesFrom .scp ∧ (enc32 4294000001 ++ [0] : List Byte).length = 5 ∧
      4294000000 < word32At (enc32 4294000001 ++ [0]) 0 ∧ 59 < byteAt (enc32 0 ++ [60]) 4 ∧
      word32At (enc32 4294000000 ++ [59]) 0 ≤ 4294000000 ∧ byteAt (enc32 4294000000 ++ [59]) 4 ≤ 59) ∧
    ((meeting .session).minute = some 1010 ∧ (meeting .session).secA.state.running = true ∧
      300 < ((word32At (enc32 1015 ++ [1]) 0 : Int) * 60 + byteAt (enc32 1015 ++ [1]) 4 -
        (1010 * 60 + (meeting .session).second)).natAbs ∧
      ¬ 300 < ((word32At (enc32 1015 ++ [0]) 0 : Int) * 60 + byteAt (enc32 1015 ++ [0]) 4 -
        (1010 * 60 + (meeting .session).second)).natAbs) ∧ idle.minute = none := by
  unfold State.takesFrom; decide

/-- The running booking of the meeting is its section's alone, whatever minutes it has. -/
theorem meeting_runsOn (st : SectState) (p : Profile) (stop : Option Nat) (rest : List Booking)
    (h : ∀ c, c ∈ rest → c.state = .pending ∧ c.id ≠ 1) (n : (rest.map fun c => c.id).Nodup) (m : Nat) :
    RunsOn .a { running with stop := stop }
      { meeting st with secA := { room st with settings := p }, bookings := { running with stop := stop } :: rest,
                        minute := some m, second := 59 } := by
  refine ⟨rfl, rfl, rfl, ?_, ?_, ?_⟩
  · simp only [List.map_cons, List.nodup_cons, List.mem_map, not_exists, not_and]
    exact ⟨fun c hc => (h c hc).2, n⟩
  · intro c hc hr _
    rcases List.mem_cons.mp hc with e | e
    · exact e
    · rw [(h c e).1] at hr; cases hr
  · intro y hy; cases y with
    | a => exact absurd rfl hy
    | b => exact nofun

/-- A meeting one minute before its end, which lies `late` minutes back. -/
def lateBy (st : SectState) (late : Nat) : State :=
  { meeting st with secA := { room st with settings := { factoryProfile with overrun := 15 } },
                    bookings := [{ running with stop := some 1060 }], minute := some (1059 + late), second := 59 }

/-- Witness for TicksAndSources and SetTimeSetsTableTime, sessions at their end: one that ends at the next minute, in
GRACE, in SESSION with and without a speaker, in OVERRUN before and at its limit, and a minute before its end. -/
theorem witness_MinuteEventActs :
    RunsOn .a running (lateBy .session 0) ∧ RunsOn .a running (lateBy .grace 0) ∧
    RunsOn .a running (lateBy .overrun 3) ∧ (lateBy .session 0).starting = false ∧
    (lateBy .session 0).minute = some 1059 ∧ running.stop = some (1059 + 1) ∧
    ((lateBy .session 0).sect .a).settings.overrun = 15 ∧
    (((lateBy .session 0).modSeat 3 speaking).speakingDelegates .a) = 1 ∧
    (1060 + 15 ≤ 1074 + 1 ∧ (1062 : Nat) + 1 < 1060 + 15) ∧
    RunsOn .a { running with stop := some 1062 }
      { meeting .session with bookings := [{ running with stop := some 1062 }], minute := some 1060, second := 59 } :=
  ⟨meeting_runsOn .session _ (some 1060) [] nofun List.nodup_nil 1059, meeting_runsOn .grace _ (some 1060) [] nofun
    List.nodup_nil 1059, meeting_runsOn .overrun _ (some 1060) [] nofun List.nodup_nil 1062, rfl, rfl, rfl, by decide,
    by decide, by decide, meeting_runsOn .session factoryProfile (some 1062) [] nofun List.nodup_nil 1060⟩

/-- A free table one minute before the start of its one booking. -/
def dueSoon : State := { idle with bookings := [waiting], lastId := 2, minute := some 1199, second := 59 }

/-- Witness for TicksAndSources and SetTimeSetsTableTime, a due start: the only booking, at its start minute. -/
theorem witness_DueBookingStarts :
    OnlyDue dueSoon waiting (1199 + 1) ∧ dueSoon.tableFree = true ∧ dueSoon.takesFrom .scp ∧
    (∀ e, waiting.stop = some e → 1200 < e) := by
  refine ⟨⟨List.mem_singleton.mpr rfl, by decide, by decide, ?_, ?_⟩, rfl, ⟨rfl, rfl⟩, ?_⟩
  · intro c h; rw [List.mem_singleton.mp h]; rfl
  · intro c h _; exact List.mem_singleton.mp h
  · intro e h; cases h; decide

/-- Witness for SetTimeSetsTableTime, a running section: the first and last second that are not too far, before and past
the end minute. -/
theorem witness_SetTimeActs :
    RunsOn .a running (lateBy .session 0) ∧ (lateBy .session 0).takesFrom .scp ∧
    (enc32 1060 ++ [0] : List Byte).length = 5 ∧ word32At (enc32 1060 ++ [0]) 0 = 1060 ∧
    ¬ 300 < ((1060 : Int) * 60 + 0 - (1059 * 60 + 59)).natAbs ∧ (lateBy .session 0).minute ≠ none ∧
    running.stop = some 1060 ∧ (1058 : Nat) < 1060 :=
  ⟨meeting_runsOn .session _ (some 1060) [] nofun List.nodup_nil 1059, ⟨rfl, rfl⟩, rfl, by decide, by decide, nofun, rfl,
    by decide⟩

/-- A BOOK payload without a title. -/
def bookPayload (span profile half : Byte) (a e : Nat) : List Byte :=
  [span] ++ enc32 a ++ enc32 e ++ [profile, half, 0]

/-- An open walk-in on the JOINED table. -/
def openMeeting : State :=
  { meeting .session with bookings := [{ running with origin := .walkIn, stop := none }] }

/-- Witness for BookAddsABooking: no time; each code out of range; intervals of 4, 5, 1440 and 1441 minutes; a
conflict; a full list; a start after now and one that is now; a start that bounds an open walk-in. -/
theorem witness_BookAddsABooking :
    (idle.takesFrom .scp ∧ idle.minute = none ∧ (meeting .session).takesFrom .scp ∧
      (bookPayload 2 7 1 1100 1105).length = 12 + byteAt (bookPayload 2 7 1 1100 1105) 11 ∧
      (meeting .session).minute = some 1010 ∧ spanOf? (byteAt (bookPayload 3 0 0 0 0) 0) = none ∧
      profileOf? (byteAt (bookPayload 0 8 0 0 0) 9) = none ∧ sectOf? (byteAt (bookPayload 0 0 2 0 0) 10) = none ∧
      spanOf? (byteAt (bookPayload 2 7 1 1100 1105) 0) = some .joined ∧
      profileOf? (byteAt (bookPayload 2 7 1 1100 1105) 9) = some 7 ∧
      sectOf? (byteAt (bookPayload 2 7 1 1100 1105) 10) = some .b) ∧
    (word32At (bookPayload 2 7 1 1100 1105) 1 = 1100 ∧ word32At (bookPayload 2 7 1 1100 1105) 5 = 1105 ∧
      (1100 : Nat) + 5 ≤ 1105 ∧ ¬ (1100 : Nat) + 5 ≤ 1104 ∧ (2540 : Nat) ≤ 1100 + 1440 ∧
      ¬ (2541 : Nat) ≤ 1100 + 1440) ∧
    ((meeting .session).conflicting none .joined (some 1100) (some 1105) = [] ∧
      (meeting .session).conflicting none .joined (some 1200) (some 1205) = [waiting] ∧
      waiting.state ≠ .running ∧ (meeting .session).bookings.length < 64 ∧
      64 ≤ (List.replicate 64 waiting).length ∧
      ({ idle with minute := some 1010 } : State).conflicting none .joined (some 1010) (some 1015) = []) ∧
    (openMeeting.conflicting none .joined (some 1100) (some 1105) =
        [{ running with origin := .walkIn, stop := none }] ∧ intervalOk 1010 1100 1105 = true ∧
      1010 + openMeeting.guardG ≤ 1100 ∧ openMeeting.bookings.length < 64) := by
  unfold State.takesFrom; decide

/-- The open walk-in of openMeeting. -/
def openWalkIn : Booking := { running with origin := .walkIn, stop := none }

/-- Witness for BookAddsABooking and MoveChangesTheInterval, the bounding of open walk-ins and a MOVE to now. -/
theorem witness_BoundsByExec :
    (openMeeting.takesFrom .scp ∧ openMeeting.conflicting none .joined (some 1100) (some 1105) = [openWalkIn] ∧
      openWalkIn.state = .running ∧ openWalkIn.origin = .walkIn ∧ openWalkIn.stop = none ∧
      1010 + openMeeting.guardG ≤ 1100 ∧ openWalkIn.start = some 1000) ∧
    (({ openMeeting with bookings := [openWalkIn, waiting] } : State).booking 2 = some waiting ∧
      ({ openMeeting with bookings := [openWalkIn, waiting] } : State).conflicting (some 2) .joined (some 1100)
        (some 1105) = [openWalkIn] ∧ 1010 + openMeeting.freezeF ≤ waiting.start.getD 0) ∧
    (dueSoon.booking 2 = some waiting ∧
      ({ dueSoon with minute := some 1100 } : State).conflicting (some 2) .joined (some 1100) (some 1105) = [] ∧
      1100 + dueSoon.freezeF ≤ waiting.start.getD 0 ∧ ¬ waiting.start = some 1100) := by
  unfold State.takesFrom; decide

/-- Witness for MoveChangesTheInterval: no time, no booking, a PENDING booking frozen, out of range, in conflict and
free, with its own interval and a new one; a RUNNING one with another start, an end out of range, and a new end. -/
theorem witness_MoveChangesTheInterval :
    (idle.takesFrom .scp ∧ idle.minute = none ∧ (meeting .session).takesFrom .scp ∧
      ([0, 2] ++ enc32 1300 ++ enc32 1330 : List Byte).length = 10 ∧ (meeting .session).booking 9 = none ∧
      (meeting .session).booking 2 = some waiting ∧ waiting.state = .pending) ∧
    (waiting.start.getD 0 < 1171 + (meeting .session).freezeF ∧
      1010 + (meeting .session).freezeF ≤ waiting.start.getD 0 ∧ ¬ (1300 : Nat) + 5 ≤ 1304 ∧
      (meeting .session).conflicting (some 2) .joined (some 1300) (some 1305) = [] ∧
      (meeting .session).conflicting (some 2) .joined (some 1050) (some 1055) = [running] ∧
      running.origin ≠ .walkIn ∧ waiting.start = some 1200 ∧ waiting.stop = some 1260) ∧
    ((meeting .session).booking 1 = some running ∧ running.state = .running ∧ running.start = some 1000 ∧
      (1010 : Nat) < 1010 + 1 ∧ (1010 : Nat) + 1 ≤ 1011 ∧ (2450 : Nat) ≤ 1010 + 1440 ∧
      (meeting .session).conflicting (some 1) .joined (some 1000) (some 1200) = [] ∧
      (meeting .session).conflicting (some 1) .joined (some 1000) (some 1201) ≠ []) := by
  unfold State.takesFrom; decide

/-- Witness for CancelRemovesAPendingBooking: no time, no booking, a RUNNING one, one inside the freeze window, one
at its edge. -/
theorem witness_CancelRemovesAPendingBooking :
    idle.takesFrom .scp ∧ idle.minute = none ∧ (meeting .session).minute = some 1010 ∧
    (meeting .session).booking (word16At [0, 9] 0) = none ∧
    (meeting .session).booking (word16At [0, 1] 0) = some running ∧ running.state = .running ∧
    (meeting .session).booking (word16At [0, 2] 0) = some waiting ∧ waiting.state = .pending ∧
    waiting.start.getD 0 < 1171 + (meeting .session).freezeF ∧
    1170 + (meeting .session).freezeF ≤ waiting.start.getD 0 := by
  unfold State.takesFrom; decide

/-- A ROSTER payload of one entry for a booking. -/
def rosterPayload (id seat share : Byte) : List Byte := [0, id, 1, seat, share, 1, 0x41]

/-- Witness for RosterCommandsChangeOneRoster: no booking, seats 47 and 48, shares 7 and 8, room in the pool; and
UNROSTER of all, of a seat without and with an entry. -/
theorem witness_RosterCommandsChangeOneRoster :
    ((meeting .session).takesFrom .scp ∧ (rosterRaw (rosterPayload 2 47 7)).isSome = true ∧
      (meeting .session).booking 9 = none ∧ (meeting .session).booking 2 = some waiting ∧
      ((meeting .session).bookings.map fun c => c.id).Nodup) ∧
    (rosterRaw (rosterPayload 2 48 7) = some [⟨48, 7, [0x41]⟩] ∧ rosterEntries? [⟨48, 7, [0x41]⟩] = none ∧
      rosterEntries? [⟨47, 8, [0x41]⟩] = none ∧ rosterEntries? [⟨47, 7, [0x41]⟩] = some [⟨47, [0x41], some 7⟩] ∧
      (newSeats waiting.roster [⟨47, [0x41], some 7⟩]).length ≤
        512 - ((meeting .session).bookings.map fun c => c.roster.length).sum) ∧
    (47 < byteAt [0, 2, 48] 2 ∧ seatOf? (byteAt [0, 2, 6] 2) = some 6 ∧
      (waiting.roster.any fun e => e.seat = 6) = false ∧ (waiting.roster.any fun e => e.seat = 5) = true) := by
  unfold State.takesFrom; decide

/-- Witness for RosterCommandsChangeOneRoster, the full pool: eleven rosters of 47 entries leave no room for two. -/
theorem witness_RosterFull :
    512 - ((List.replicate 11 ((List.finRange 47).map fun i : Fin 47 =>
      (⟨⟨i.val, by omega⟩, [0x41], none⟩ : RosterEntry))).map fun l => l.length).sum <
        (newSeats [] [⟨0, [0x41], none⟩]).length := by decide

/-- Witness for ClearTableClears: a section that runs and one that does not. -/
theorem witness_ClearTableClears :
    (meeting .session).takesFrom .scp ∧ ((meeting .session).sect .a).state.running = true ∧
    ((meeting .session).sect .b).state.running = false ∧ (twoSpeak.seat 3).mic = .active := by
  unfold State.takesFrom; decide

/-- Witness for TicksAndSources: the load; second 58 and 59; the last minute but one and the last; a first and a
third unanswered poll. -/
theorem witness_TicksAndSources :
    State.reset.starting = true ∧ idle.starting = false ∧
    (59 ≤ ({ idle with minute := some 4294967293, second := 59 } : State).second ∧
      ({ idle with minute := some 4294967293, second := 59 } : State).minute = some 4294967293 ∧
      (4294967293 : Nat) < 4294967294 ∧ ¬ (4294967294 : Nat) < 4294967294 ∧ ¬ 59 ≤ idle.second) ∧
    ({ idle with polled := true, pollMiss := 2 } : State).polled = true ∧
    ({ idle with polled := true, pollMiss := 2 } : State).pollMiss = 2 ∧ idle.polled = false := by decide

/-- Witness for DisplayLinkUpdates: an ACK with the screen clean and dirty, of another version, a HELLO, screen 4; a
timeout of an ONLINE screen and of an OFFLINE one; an OFFLINE, dirty screen with nothing in flight. -/
theorem witness_DisplayLinkUpdates :
    ((flying.screen 0).inFlight = some 5 ∧ (flying.screen 0).dirty = false ∧
      ((flying.modScreen 0 fun r => { r with dirty := true }).screen 0).dirty = true ∧
      (flying.screen 0).inFlight ≠ some 4 ∧ flying.starting = false ∧ (3 : Nat) < 4) ∧
    ((idle.screen 0).inFlight = none ∧ (flying.screen 0).inFlight ≠ none ∧ (flying.screen 0).link ≠ .offline ∧
      ((flying.modScreen 0 fun r => { r with link := .offline }).screen 0).link = .offline) ∧
    (((idle.modScreen 3 fun r => { r with link := .offline }).screen 3).dirty = true ∧
      ((idle.modScreen 3 fun r => { r with link := .offline }).screen 3).inFlight = none) := by decide

/-- Witness for HardwareResetSetsResetValues: a store whose items are whole and in range. -/
theorem witness_HardwareResetSetsResetValues :
    idle.stored.map = some factoryMap ∧ mapOk factoryMap = true ∧ idle.stored.profiles[7] = some factoryProfile ∧
    profileOk factoryProfile = true ∧ idle.stored.table = some factoryTable ∧ tableOk factoryTable = true := by
  decide

/-- Witness for HardwareResetSetsResetValues, items that are absent and out of range. -/
theorem witness_ResetLoadsFactoryValues :
    ({ idle with stored := ⟨none, Vector.replicate 8 none, none⟩ } : State).stored.map = none ∧
    tableOk { factoryTable with k := 3 } = false ∧ tableOk { factoryTable with k := 4 } = true ∧
    profileOk { factoryProfile with limit := 0 } = false ∧ profileOk { factoryProfile with limit := 1 } = true := by
  decide

/-- Witness for StartUpLoadCompletes: a load that runs and one that is over; a screen as the reset leaves it. -/
theorem witness_StartUpLoadCompletes :
    idle.starting = false ∧ State.reset.starting = true ∧ State.reset.stored.table = some factoryTable ∧
    (State.reset.screen 3).link = .unknown ∧ (State.reset.screen 3).dirty = true ∧
    (State.reset.screen 3).inFlight = none := by decide

/-- A state with one command that waits. -/
def stepping : State := { idle with pending := [.secondTick] }

/-- Witness for StepKeepsWithinRanges. -/
theorem witness_StepKeepsWithinRanges :
    WithinRanges stepping ∧ SplitFits stepping ∧ step stepping = .next (after .secondTick idle) := by
  refine ⟨⟨?_, by decide, by decide, ?_, by decide, ?_, by decide, by decide, by decide, by decide, by decide,
    by decide⟩, ⟨⟨by decide, by decide⟩, ?_, ?_⟩, rfl⟩
  · intro p; cases p <;> decide
  · intro x; cases x <;> decide
  · intro m h; cases h
  · intro d h; cases h; exact ⟨by decide, by decide⟩
  · intro d h; cases h

/-- Witness for StepKeepsMicsFit: two seats speak. -/
theorem witness_StepKeepsMicsFit :
    MicsFit mixTable ∧ step { mixTable with pending := [.audioFrame] } = .next (after .audioFrame mixTable) :=
  ⟨micsFit_of (by decide), rfl⟩

/-- Witness for StepKeepsQueuesFit: a step that keeps the division, and a table that is free for one that does not. -/
theorem witness_StepKeepsQueuesFit :
    QueuesFit table47 ∧ QueuesFit idle ∧ (after (.promote .cpa [32]) table47).mode = table47.mode ∧
    (after (.promote .cpa [32]) table47).k = table47.k ∧ idle.tableFree = true ∧
    (after (.split .mdp [8, 1]) idle).mode ≠ idle.mode :=
  ⟨queuesFit_table47, queuesFit_of_empty rfl rfl, by decide⟩

/-- Witness for StepKeepsQueuesFit: the table of a meeting in form, its running booking begun, and a step of it that keeps
table time. -/
theorem witness_StepKeepsTableFits :
    LoadIdle (meeting .session) ∧ TableFits (meeting .session) ∧ RunningBegun (meeting .session) ∧
    step { meeting .session with pending := [.secondTick] } = .next (after .secondTick (meeting .session)) ∧
    (after .secondTick (meeting .session)).minute = some 1010 := by
  have l : LoadIdle (meeting .session) := nofun
  refine ⟨l, ⟨⟨?_, by decide, by decide, ?_, by decide, ?_, by decide, by decide, by decide, by decide, by decide,
    by decide⟩, l, micsFit_of (by decide), queuesFit_of_empty rfl rfl,
    ⟨?_, by decide, by decide, ?_, by decide, by decide, ?_, by decide, ?_, by decide, ?_, ?_, ?_⟩,
    fun _ => ⟨by decide, ?_, ?_, ?_, ?_, ?_, by decide, by decide, by decide⟩⟩, ?_, rfl, rfl⟩
  · intro p; cases p <;> decide
  · intro x; cases x <;> decide
  · intro m h; cases h; decide
  · intro i k h
    have n : ∀ i, ((meeting .session).seat i).slot = none := by decide
    rw [n i] at h; cases h
  · intro x e h; cases x <;> cases h
  · intro x; cases x <;> decide
  · intro x; cases x <;> decide
  · intro x; cases x <;> decide
  · intro x i h; cases x <;> cases h
  · intro x; cases x <;> decide
  · intro b hb hp
    rcases List.mem_cons.mp hb with e | e
    · rw [e] at hp; cases hp
    · rw [List.mem_singleton.mp e]
      exact ⟨rfl, fun m h => by cases h; decide, nofun, nofun, nofun⟩
  · intro b hb hp a ha e he
    rcases List.mem_cons.mp hb with q | q
    · rw [q] at hp; cases hp
    · rw [List.mem_singleton.mp q] at ha he; cases ha; cases he; decide
  · intro b hb hr
    rcases List.mem_cons.mp hb with e | e
    · rw [e]
      exact ⟨rfl, rfl, rfl, ⟨nofun, nofun⟩, nofun,
        fun e he m hm g => by cases he; cases hm; exact absurd g (by decide)⟩
    · rw [List.mem_singleton.mp e] at hr; cases hr
  · intro x hx; cases x with
    | a => exact ⟨running, List.mem_cons_self .., rfl, rfl, rfl⟩
    | b => cases hx
  · intro x hx; cases x with
    | a => cases hx
    | b => rfl
  · intro b hb hr a ha
    rcases List.mem_cons.mp hb with e | e
    · rw [e] at ha ⊢; cases ha
      exact ⟨fun m hm => by cases hm; decide, fun e he => by cases he; decide⟩
    · rw [List.mem_singleton.mp e] at hr; cases hr

/-- Witness for StepKeepsShownCurrent: a READY seat that shows what is composed for it. -/
theorem witness_StepKeepsShownCurrent :
    ShownCurrent (meeting .session).refresh ∧ ((meeting .session).refresh.seat 7).presence = .ready := by
  refine ⟨⟨?_, ?_, ?_⟩, by decide⟩ <;> decide

/-- Witness for OnlyTheirOwnersWrite: a command that owns none of the four, and a seat's seconds in range. -/
theorem witness_OnlyTheirOwnersWrite :
    exec (.status ⟨.mdp, 0⟩) idle = .next (after (.status ⟨.mdp, 0⟩) idle) ∧
    Instr.status ⟨.mdp, 0⟩ ≠ .hardwareReset ∧
    (idle.seat 0).cumul ≤ 65535 := ⟨rfl, by decide, by decide⟩

/-- Witness for the notices of grants, closes and priority: no seat waits for a slot; a seat outside the section; the
console holding priority alone; and one more delegate on the floor than the limit. -/
theorem witness_SettledSections :
    (meeting .session).settled .a ∧ table47.settled .a ∧ twoSpeak.settled .a ∧ (muted .mute).settled .a ∧
    (twoSpeak.sect .a).queue = [] ∧ (twoSpeak.sect .a).state ≠ .overrun ∧
    ((muted .mute).sect .a).console = true ∧ ((muted .mute).sect .a).holders = [] ∧
    (table47.modSect .a fun r => { r with settings := { r.settings with limit := 1 } }).delegateCount .a = 2 := by
  refine ⟨Or.inr ?_, Or.inr ?_, Or.inr ?_, Or.inr ?_, by decide⟩ <;> unfold State.eligible <;> decide

/-- The meeting of `floorSet` with the console holding priority. -/
def prior (key : KeyMode) : State := session fun r => { floorSet .queue false 6 key r with console := true }

/-- A seat that has spoken for a minute, in a section with a cap of one minute. -/
def capped (key : KeyMode) : State :=
  (session fun r => { floorSet .queue false 6 key r with settings :=
    { (floorSet .queue false 6 key r).settings with cap := 1 } }).modSeat 7 fun r => { r with cumul := 60 }

/-- A queue of 24 entries, of seats 8 to 31. -/
def fullQueue : List QEntry :=
  (List.finRange 24).map fun k => ⟨⟨k.val + 8, by omega⟩, .normal, 1⟩

/-- Witness for KeyPressIsDecided, the notices: the cap and priority in PRESS and PTT mode, a full queue, a queue with
room, a CLOSING seat, another seat's entry ahead, and a check-in by REQUEST and by PRIORITY. -/
theorem witness_KeyEventsTell :
    (KeyArrives .north 7 (keyed 7 .requestPress) .requestPress (visiting 7 (capped .press)) ∧
      KeyArrives .north 7 (keyed 7 .requestPress) .requestPress (visiting 7 (capped .ptt)) ∧
      QueuesFit (capped .ptt) ∧ (capped .press).capReached .a 7 = true ∧ (capped .ptt).capReached .a 7 = true) ∧
    (KeyArrives .north 7 (keyed 7 .requestPress) .requestPress (visiting 7 (prior .ptt)) ∧
      QueuesFit (prior .press) ∧ (prior .press).priorityOn .a = true ∧ (prior .press).capReached .a 7 = false ∧
      (prior .ptt).priorityOn .a = true ∧ ((prior .press).sect .a).queue.length < 24) ∧
    (QueuesFit (session fun r => { r with queue := fullQueue }) ∧
      ((session fun r => { r with queue := fullQueue }).sect .a).queue.length = 24 ∧
      (session fun r => { r with queue := fullQueue }).queueEntry .a 7 = none ∧
      ((session fun r => { r with queue := fullQueue }).sect .a).settings.floorMode = .queue) ∧
    (((fadingAt 0 0 ((meeting .session).seat 7)).mic = .closing) ∧
      (⟨8, .normal, 1⟩ : QEntry) ∈ ((session fun r => { r with queue := fullQueue }).sect .a).queue) ∧
    (KeyArrives .north 7 (keyed 7 .requestPress) .requestPress (visiting 7 (meeting .grace)) ∧
      KeyArrives .north 7 (keyed 7 .priorityPress) .priorityPress
        (visiting 7 ((meeting .grace).modSeat 7 fun r => { r with kind := some .chairUnit })) ∧
      ((meeting .grace).sect .a).state = .grace) := by
  refine ⟨⟨keyArrives _ rfl rfl, keyArrives _ rfl rfl, queuesFit_of_empty rfl rfl, by decide⟩,
    ⟨keyArrives _ rfl rfl, queuesFit_of_empty rfl rfl, by decide⟩, ⟨⟨?_, ?_, ?_⟩, by decide⟩, by decide,
    keyArrives _ rfl rfl, keyArrives _ rfl rfl, rfl⟩
  · intro x; cases x <;> decide
  · intro x; cases x <;> decide
  · intro x; cases x <;> decide

/-- Witness for AddTimeAndClock: a seat above 47, a seat outside the section, and no turn before the second. -/
theorem witness_AddTimeOutside :
    (∀ i, seatOf? (byteAt [48, 0, 10] 0) = some i → divided.sectionOf i ≠ .a) ∧
    (∀ i, seatOf? (byteAt [12, 0, 10] 0) = some i → divided.sectionOf i ≠ .a) ∧
    seatOf? (byteAt [12, 0, 10] 0) = some 12 ∧ divided.commanded .cpa = some .a ∧
    (with1 .session 7 (turning 5)).commanded .cpa = some .a := by decide

/-- A free table at minute 1000 whose one booking is PENDING, with a start minute. -/
def before (start : Nat) : State := { idle with minute := some 1000, bookings := [{ waiting with start := some start }] }

/-- Witness for WalkInStartsASession, the span and profile: code 3, the other half, profile 8; a divided table of which
one half is busy; and lengths 0, 4, 5, 1440 and 1441. -/
theorem witness_WalkInRanges :
    (spanOf? (byteAt [3, 0, 0, 0] 0) = none ∧ spanOf? (byteAt [0, 0, 0, 0] 0) = some (halfSpan .a) ∧
      (7 : Nat) < byteAt [2, 0, 0, 8] 3 ∧ spanOf? (byteAt [2, 0, 0, 7] 0) = some .joined ∧
      spanOf? (byteAt [1, 0, 0, 0] 0) = some (halfSpan .b)) ∧
    (divided.secA.state = .free ∧ divided.secB.state = .free ∧ (divided.sect .b).state = .free ∧
      (meeting .session).secA.state ≠ .free) ∧
    (word16At [2, 0, 0, 0] 1 = 0 ∧ word16At [2, 0, 4, 0] 1 = 4 ∧ word16At [2, 0, 5, 0] 1 = 5 ∧
      word16At [2, 5, 160, 0] 1 = 1440 ∧ word16At [2, 5, 161, 0] 1 = 1441) := by decide

/-- Witness for WalkInStartsASession, R165: a booking of the span that starts before now + G and one at it; the end
bounded by a start, by the length and beyond the last minute; no booking; a full list; and time unset. -/
theorem witness_WalkInBounds :
    (waiting.span = .joined ∧ spansShare waiting.span .b = true ∧ (before 1014).guardG = 15 ∧
      (before 1014).bookings = [{ waiting with start := some 1014 }] ∧ (1014 : Nat) < 1000 + 15 ∧
      ¬ (1015 : Nat) < 1000 + 15) ∧
    ((∀ b, b ∈ (before 1015).bookings → b.start.getD 0 < 1000 + 30) ∧
      (∀ b, b ∈ (before 1015).bookings → (1015 : Nat) ≤ b.start.getD 0) ∧
      (∀ b, b ∈ (before 1200).bookings → ¬ b.start.getD 0 < 1000 + 30)) ∧
    (({ idle with minute := some 4294967290 } : State).bookings = [] ∧ (4294967294 : Nat) < 4294967290 + 5 ∧
      ¬ (4294967294 : Nat) < 4294967289 + 5) ∧
    (64 ≤ (List.replicate 64 waiting).length ∧ idle.minute = none ∧ idle.bookings.length < 64) := by decide

/-- Witness for WalkInStartsASession, SETTIME and the minute event: an end inside the warning time and one outside it. -/
theorem witness_WarningTimes :
    idle.profiles[(0 : ProfileNo)].ending = 5 ∧ (1005 : Nat) ≤ 1000 + 5 ∧ ¬ (1006 : Nat) ≤ 1000 + 5 ∧
    ((lateBy .session 0).sect .a).settings.ending ≠ 0 ∧ (1062 : Nat) ≤ 1060 + 1 + 5 ∧ (1062 : Nat) ≠ 1060 + 1 := by
  decide

/-- Witness for MoveChangesTheInterval: the running booking of section A in each state that R179 names, with another
end minute inside and outside the warning time, and its own. -/
theorem witness_MovedEnd :
    (meeting .session).runningBooking .a = some running ∧ (meeting .grace).runningBooking .a = some running ∧
    (meeting .overrun).runningBooking .a = some running ∧ spanSection running.span = .a ∧
    running.stop ≠ some 1015 ∧ running.stop = some 1060 ∧ (1015 : Nat) ≤ 1010 + 5 ∧ ¬ (1016 : Nat) ≤ 1010 + 5 ∧
    ((meeting .session).sect .a).settings.ending = 5 := by decide

/-- Witness for ClearTableClears: two sections that run different bookings, and a table with none. -/
theorem witness_ClearTableTells :
    (meeting .session).secA.booking ≠ (meeting .session).secB.booking ∧ idle.secA.booking = none := by decide

/-- Witness for SeatMapSetsOneEntry and ScreensAreReassigned: payloads with every field at its bound. -/
theorem witness_PayloadsInRange :
    (byteAt [47, 1, 255, 0, 0] 0 ≤ 47 ∧ byteAt [47, 1, 255, 0, 0] 1 ≤ 1 ∧ byteAt [47, 1, 255, 0, 0] 2 = 255 ∧
      byteAt [0, 0, 7, 0, 0] 2 ≤ 7) ∧
    (∀ n : ScreenNo, ¬ 1 < byteAt [1, 0, 1, 1] n.val) ∧ (∃ n : ScreenNo, 1 < byteAt [0, 0, 0, 2] n.val) := by decide

/-- A PROFILE payload in range whose volume is 65535 and whose other fields are the factory profile's. -/
def loudProfile : List Byte := (([7] ++ encProfile factoryProfile).set 25 0xFF).set 26 0xFF

/-- Witness for ProfileWritesOneProfile: every field in range, the volume clamped to 16384. -/
theorem witness_ProfileInRange :
    profileLengthOk loudProfile = true ∧ 1 ≤ byteAt loudProfile 3 ∧ byteAt loudProfile 3 ≤ 6 ∧
    16384 < word16At loudProfile 25 ∧ word16At loudProfile 5 ≤ 360 ∧ byteAt loudProfile 28 ≤ 15 ∧
    (profileFields? loudProfile).map (fun q => q.volume) = some 16384 := by decide

/-- Witness for LayoutIsWritten: a tile whose crop lies beyond the picture, clamped to column 0 and row 0. -/
theorem witness_LayoutCrop :
    tilesAt [0, 0, 1, 0, 15, 0, 8, 5, 0xFF, 9, 9] 1 3 = some [{ factoryTile with content := .blank }] ∧
    tilesAt [0, 0, 1, 0, 7, 0, 4, 0, 7, 9, 9] 1 3 ≠ none ∧ tilesAt [0, 0, 1, 0, 7, 0, 4, 0, 8, 9, 9] 1 3 = none := by
  decide

/-- Two loud voices at 7.10.1's table with the volume at 1.0. -/
def loud : State :=
  ((mixTable.modSeat 3 (talker 0 8000000 20626)).modSeat 5 (talker 1 8000000 20626)).modSect .a fun r =>
    { r with settings := { r.settings with volume := 16384 } }

/-- Witness for FrameComputesBusesAndFeeds, the CLIP notices: a bus and a feed of section A that saturate, with the
counters at 0 and above it; a section whose counters do not rise. -/
theorem witness_ClipNotices :
    (let u := roundScale ((loud.contributions .a).map fun q => q.2).sum (busGain (loud.nom .a)); saturate u ≠ u) ∧
    (let w := feedValue (loud.sect .a).settings (busGain (loud.nom .a)) (loud.contributions .a) 11
     loud.sectionOf 11 = .a ∧ (loud.seat 11).presence = .ready ∧ (loud.seat 11).mic = .closed ∧ saturate w ≠ w) ∧
    ((loud.sect .a).busClip = 0 ∧ (loud.sect .a).feedClip = 0 ∧
      ((loud.modSect .a fun r => { r with busClip := 1, feedClip := 65535 }).sect .a).busClip ≠ 0) ∧
    (after .audioFrame loud).mdp.notices.map (fun n => (n.sect, n.seat, n.detail)) =
      [(some .a, none, .clip .bus .positive), (some .a, some 0, .clip .feed .positive)] := by decide

/-- Witness for VisitSendsByPresence, R20: a READY seat for which no block is complete yet. -/
theorem witness_NoFeedYet : ((calling .ready).seat (seatAt .north 3)).feedLast.length = 0 := by decide

/-- Witness for ShareAndUnshare: UNSHARE of section B from the lead port of a JOINED table, and of a byte that names no
section from the MDP. -/
theorem witness_UnshareRange :
    shares.commanded .cpa = some .a ∧ sectOf? (byteAt [1] 0) ≠ some .a ∧ (1 : Nat) < byteAt [2] 0 ∧
    ¬ (1 : Nat) < byteAt [1] 0 ∧ answer (after (.unshare .cpa [1]) shares) .cpa = some .range := by decide

/-- Booking 5 on section B after a SETTIME back: RUNNING, its start ahead of minute 990. -/
def ahead : Booking := { running with id := 5, span := .b }

/-- Section B's session on that booking, and a JOINED booking that ends at its start. -/
def setBack : State :=
  { divided with secB := { room .session with booking := some 5 }, seats := Vector.ofFn member, minute := some 990,
                 bookings := [{ waiting with start := some 990, stop := some 1000 }, ahead], lastId := 5 }

/-- R26, R167, R23 (assumption 42): a booking that starts where a session still runs ends that session first; B is then
MERGED, and stays so past the end minute of the older booking. -/
theorem test_start_ends_the_older_session :
    (setBack.startBooking 2).secB.state = .merged ∧ (setBack.startBooking 2).secA.booking = some 2 ∧
    (setBack.startBooking 2).bookings.length = 1 ∧ ((setBack.startBooking 2).endPast 1100).secB.state = .merged ∧
    (setBack.startBooking 2).scp.notices.map (fun n => n.sect) = [some .b, some .b, some .b, some .a] := by decide

/-- R34: READSECT of a MERGED section B shows lead port CPA after a meeting that CPB led; of section A, CPB. -/
theorem test_merged_lead :
    (answered (after (.readSect .scp [1]) { idle with lead := .b }) .scp).map (fun l => l.take 5) =
        some (enc8 0 ++ enc8 12 ++ enc8 0 ++ enc8 0 ++ enc8 5) ∧
      (answered (after (.readSect .scp [0]) { idle with lead := .b }) .scp).map (fun l => l.take 5) =
        some (enc8 0 ++ enc8 12 ++ enc8 0 ++ enc8 1 ++ enc8 0) := by decide

/-- Witness for ReadingCommandsChangeNothing: a section that is MERGED and ones that are not. -/
theorem witness_ReadsMerged : (idle.sect .b).state = .merged ∧ (divided.sect .b).state ≠ .merged := by decide

/-- Witness for DENY, PROMOTE, CLOSE and SHARE of a seat out of range: seat 48, and from a chair port a seat of the other
section; and of one in range. -/
theorem witness_SeatsOutOfRange :
    (∀ i, seatOf? (byteAt [48] 0) = some i → table47.sectionOf i ≠ .a) ∧
    (∀ i, seatOf? (byteAt [12] 0) = some i → Port.cpa ≠ .mdp ∧ divided.sectionOf i ≠ .a) ∧
    divided.takesFrom .cpa ∧ divided.commanded .cpa = some .a ∧
    answer (after (.deny .cpa [48]) table47) .cpa = some .range ∧
    answer (after (.close .cpa [48]) table47) .cpa = some .range ∧
    answer (after (.share .mdp [48]) shares) .mdp = some .range := by
  unfold State.takesFrom; decide

/-- N4 and N7 speak and own sources 2 and 5; N7's stamp is the newer. -/
def sharing : State :=
  (shares.modSeat 4 speaking).modSeat 7 fun r =>
    { speaking r with slot := some 1, stamp := some 2, map := { r.map with share := some 5 } }

/-- Witness for ShareAndUnshare, the fallback: with presenter follows speaker on the newest ACTIVE owner, with it off and
with no ACTIVE owner none. -/
theorem witness_Fallback :
    (sharing.sect .a).settings.follows = true ∧ sharing.ownsSource 4 = some 2 ∧ sharing.ownsSource 7 = some 5 ∧
    (sharing.seat 4).mic = .active ∧ (sharing.seat 4).stamp = some 1 ∧ (sharing.seat 7).stamp = some 2 ∧
    sharing.fallbackPresenter .a = some (7, .follow) ∧ shares.fallbackPresenter .a = none ∧
    (sharing.modSect .a fun r => { r with settings := { r.settings with follows := false } }).fallbackPresenter .a =
      none := by decide

/-- Witness for ShareAndUnshare, what every step keeps: a meeting in which N4 presents, and one without a
presenter. -/
theorem witness_PresentersFit :
    PresentersFit (shares.modSect .a fun r => { r with presenter := some (4, .explicit) }) ∧
    PresentersFit (meeting .session) := by
  refine ⟨fun x i o h => ?_, fun x i o h => ?_⟩
  · cases x <;> cases h
    decide
  · cases x <;> cases h

/-- Witness for GrantAndNextGiveTheFloor, R135: a grant of N4, which owns source 2, makes it the FOLLOW presenter; beside an
EXPLICIT presenter it does not. -/
theorem witness_GrantPresents :
    shares.settled .a ∧ (after (.grant .cpa [4]) shares).secA.presenter = some (4, .follow) ∧
    (after (.grant .cpa [4]) (shares.modSect .a fun r => { r with presenter := some (9, .explicit) })).secA.presenter =
      some (9, .explicit) := by
  refine ⟨Or.inr ?_, by decide⟩; unfold State.eligible; decide

/-- Witness for CountEventCounts: a timer in each state. -/
theorem witness_TimersCount :
    (session fun r => { r with grace := .running 1, idle := .running 2 }).secA.grace = .running 1 ∧
    (after (.countEvent .a) (session fun r => { r with grace := .running 1, idle := .running 2 })).secA.grace =
      .runOut ∧
    (after (.countEvent .a) (session fun r => { r with grace := .running 1, idle := .running 2 })).secA.idle =
      .running 1 ∧
    (session fun r => { r with grace := .runOut }).secA.grace = .runOut ∧ (meeting .session).secA.idle = .stopped := by
  decide

/-- Witness for RosterCommandsChangeOneRoster: a roster in seat order, an entry of a seat it holds and of one it does
not. -/
theorem witness_RosterOrder :
    (waiting.roster.Pairwise fun e f => e.seat.val < f.seat.val) ∧
    putEntries waiting.roster [⟨5, [0x42], none⟩, ⟨3, [], some 1⟩] = [⟨3, [], some 1⟩, ⟨5, [0x42], none⟩] := by decide

/-- The factory profile lies in the ranges of Table 11-3. -/
theorem profileFits_factory : ProfileFits factoryProfile := by
  have h : ∀ n : ScreenNo, (1 ≤ factoryProfile.layouts[n].length ∧ factoryProfile.layouts[n].length ≤ 4) ∧
      ∀ t, t ∈ factoryProfile.layouts[n] → (t.c0 ≤ t.c1 ∧ t.c1 ≤ 15) ∧ (t.r0 ≤ t.r1 ∧ t.r1 ≤ 8) ∧
        t.cropC + (t.c1 - t.c0 + 1) ≤ 16 ∧ t.cropR + (t.r1 - t.r0 + 1) ≤ 9 := by decide
  exact ⟨by decide, by decide, by decide, by decide, by decide, by decide, by decide, by decide, by decide, by decide,
    by decide, by decide, fun n => ⟨(h n).1.1, (h n).1.2, fun t m =>
      ⟨((h n).2 t m).1, ((h n).2 t m).2.1, ((h n).2 t m).2.2.1, ((h n).2 t m).2.2.2⟩⟩⟩

/-- Witness for StepKeepsWithinRanges: counters and settings of a table that ticks. -/
theorem witness_CountersAndSettings : CountersFit stepping ∧ SettingsFit stepping := by
  have m : ∀ i : Seat, (∀ n, (factoryMap[i]).share = some n → n ≤ 7) ∧ (factoryMap[i]).trim ≤ 65535 := by decide
  have w : ∀ i : Seat, (stepping.seat i).map = factoryMap[i] := by decide
  have v : ∀ n, (stepping.screen n).version = none := by decide
  have t : ∀ i, (stepping.seat i).turn = none := by decide
  have p : ∀ n : ProfileNo, stepping.profiles[n] = factoryProfile ∧
      stepping.stored.profiles[n] = some factoryProfile := by decide
  refine ⟨⟨by decide, by decide, by decide, by decide, by decide, fun n u h => ?_, ?_, ?_, ?_, ?_⟩,
    ⟨fun n => ?_, ?_, fun i => ?_, ⟨⟨by decide, by decide⟩, by decide, by decide⟩, fun f h i => ?_, fun n q h => ?_, fun d h => ?_,
      nofun, nofun, nofun, fun i q h => ?_⟩⟩
  · rw [v n] at h; cases h
  · intro x; cases x <;> decide
  · intro x; cases x <;> decide
  · intro x; cases x <;> decide
  · intro x; cases x <;> decide
  · rw [(p n).1]; exact profileFits_factory
  · intro x; cases x <;> exact profileFits_factory
  · rw [w i]; exact ⟨(m i).1, (m i).2⟩
  · cases h; exact ⟨(m i).1, (m i).2⟩
  · rw [(p n).2] at h; cases h; exact profileFits_factory
  · cases h; exact ⟨⟨by decide, by decide⟩, by decide, by decide⟩
  · rw [t i] at h; cases h

/-- A state with the layouts of section A one tile of a content. -/
def tiled (c : Content) (s : State) : State :=
  s.modSect .a fun r => { r with settings := { r.settings with
    layouts := Vector.replicate 4 [{ factoryTile with content := c }] } }

/-- A free table with every screen ONLINE and its version 1 in flight. -/
def linked : State :=
  { idle with screens := Vector.ofFn fun n =>
      { idle.screen n with link := .online, dirty := false, version := some 1, inFlight := some 1,
                           ackTimer := some 250, sent := some (1, (idle.screen n).layout) } }

/-- Witness for DisplayLinkUpdates, what every step keeps: four screens with an update in flight; a step that answers none
of them; a step that sends an update, and one that changes a layout. -/
theorem witness_LinkFits :
    LinkFits linked ∧ step { linked with pending := [.secondTick] } = .next (after .secondTick linked) ∧
    (linked.screen 0).inFlight ≠ none ∧ Instr.secondTick ≠ .hello 0 ∧
    ((after (.ack 0 5) (flying.modScreen 0 fun r => { r with dirty := true })).screen 0).version = some 6 ∧
    ((after (.sources (Vector.replicate 8 true)) (tiled (.input 2) linked)).screen 0).layout ≠ (linked.screen 0).layout := by
  refine ⟨⟨fun n h => ⟨1, ?_⟩, fun n v h => ?_, by decide, fun h n => ?_⟩, rfl, by decide⟩
  · revert n; decide
  · have e : ∀ n, (linked.screen n).inFlight = some 1 ∧ (linked.screen n).version = some 1 := by decide
    rw [(e n).1] at h; cases h; exact (e n).2
  · revert n; decide

/-- The meeting with everything shown, and N7's request key pressed. -/
def shown : State := visiting 7 (meeting .session).refresh

/-- Witness for StepKeepsShownCurrent, the versions: a press that changes a ring and a nameplate, with one key event; a
seat that is not READY. -/
theorem witness_RecordVersions :
    exec (.answerArrival .north press) shown = .next (after (.answerArrival .north press) shown) ∧
    ((after (.answerArrival .north press) shown).seat 7).ring ≠ (shown.seat 7).ring ∧
    ((after (.answerArrival .north press) shown).seat 7).plate ≠ (shown.seat 7).plate ∧
    ((after (.answerArrival .north press) shown).seat 8).ring = (shown.seat 8).ring ∧
    ([.requestPress] : List KeyEvent).length ≤ 1 ∧ (idle.seat 8).presence ≠ .ready :=
  ⟨rfl, by decide⟩

/-- Witness for StepKeepsShownCurrent, ring and status line of a delegate: OVERTIME, WARNING and a plain turn, a turn
without a limit, a seat on hold, a PENDING one; the head of the queue, one behind it, and an idle seat with the cap
reached, in OVERRUN, and with neither. -/
theorem witness_DelegateShown :
    (((with1 .session 7 fun r => { speaking r with turn := some ⟨120, -3, true, true, false⟩ }).seat 7).turn =
        some ⟨120, -3, true, true, false⟩ ∧
      ((with1 .session 7 fun r => { speaking r with turn := some ⟨120, 20, true, false, false⟩ }).seat 7).turn =
        some ⟨120, 20, true, false, false⟩ ∧ ((with1 .session 7 (turning 95)).seat 7).mic = .active ∧
      ((with1 .session 7 speaking).seat 7).turn = none ∧ ((muted .mute).seat 3).mic = .suspended ∧
      ((with1 .session 7 (waitingFor 3)).seat 7).mic = .pending) ∧
    (table47.secA.queue.head? = some ⟨7, .normal, 9⟩ ∧ (table47.seat 7).mic = .closed ∧
      (⟨26, .normal, 10⟩ : QEntry) ∈ table47.secA.queue ∧ table47.secA.queue.head? ≠ some ⟨26, .normal, 10⟩ ∧
      (table47.seat 26).mic = .closed) ∧
    ((meeting .overrun).secA.state = .overrun ∧ (meeting .session).secA.settings.cap = 0 ∧
      ((capped .press).sect .a).settings.cap * 60 ≤ ((capped .press).seat 7).cumul ∧
      (meeting .session).runningBooking .a = some running ∧ (meeting .ending).runningBooking .a = some running ∧
      running.stop = some 1060) := by decide

/-- Witness for StepKeepsShownCurrent, a chair's status line and the other states: a chair that holds priority, a
speaking chair, an idle chair with a queue and with none; GRACE; a FREE section with no booking ahead and with one. -/
theorem witness_ChairAndIdleShown :
    ((0 : Seat) ∈ ((held .mute).sect .a).holders ∧ ((held .mute).seat 0).isChair = true ∧
      (with1 .session 0 speaking).secA.holders = [] ∧ ((with1 .session 0 speaking).seat 0).mic = .active ∧
      table47.secA.queue ≠ [] ∧ (meeting .session).secA.queue = [] ∧ (meeting .grace).secA.state = .grace) ∧
    ((idle.sect (idle.sectionOf 5)).state = .free ∧ idle.bookings = [] ∧
      ({ idle with bookings := [waiting] } : State).bookings.Pairwise fun b f => bookingBefore f b = false) ∧
    (waiting.state = .pending ∧ waiting.span = .joined ∧ waiting.start = some 1200 ∧ waiting.stop = some 1260 ∧
      { idle with bookings := [waiting] }.composePlate 5 = ⟨[0x41], txt "NEXT 20:00-21:00"⟩) := by decide

/-- Witness for StepKeepsShownCurrent, what a screen shows: each kind of tile, with a source present and absent, a
presenter that owns its source, speakers and none, eight queue entries and more, and no running booking. -/
theorem witness_ScreensShow :
    ((tiled (.input 2) idle).resolved 0)[0]?.map (fun v => v.shown) =
        some (.noSignal 2 (txt "NO SIGNAL") (txt "INPUT 2")) ∧
    ((tiled .presenter (shares.modSect .a fun r => { r with presenter := some (4, .explicit) })).resolved 0)[0]?.map
        (fun v => v.shown) = some (.noSignal 2 (txt "NO SIGNAL") (txt "INPUT 2")) ∧
    ((tiled .speakers table47).resolved 0)[0]?.map (fun v => v.shown) =
        some (.caption .speakers (txt "SPEAKERS") [txt "N3", txt "N5"]) ∧
    ((tiled .presenter idle).resolved 0)[0]?.map (fun v => v.shown) =
        some (.caption .speakers (txt "NO SPEAKERS") []) ∧
    ((tiled .queue table47).resolved 0)[0]?.map (fun v => v.shown) =
        some (.caption .queue (txt "QUEUE 3") [txt "1 N7", txt "2 S2", txt "3 S8"]) ∧
    ((tiled .agenda idle).resolved 0)[0]?.map (fun v => v.shown) = some (.caption .agenda (txt "AVAILABLE") []) ∧
    ((tiled .agenda (meeting .session)).resolved 0)[0]?.map (fun v => v.shown) =
        some (.caption .agenda [] [txt "NOW UNTIL 17:40", txt "20:00-21:00 "]) ∧
    ((tiled .blank idle).resolved 0)[0]?.map (fun v => v.shown) = some .black ∧
    (8 < fullQueue.length ∧ (fullQueue.take 8).length = 8) := by decide

/-- Witness for ProfileWritesOneProfile: fields out of range in a PROFILE payload, each refused RANGE; presenter follows
speaker 2, a column 16 in the last layout's tile, and an INPUT tile of input 8. -/
theorem witness_ProfileOutOfRange :
    (profileFields? (loudProfile.set 3 0) = none ∧ profileFields? (loudProfile.set 12 16) = none ∧
      profileFields? (loudProfile.set 29 2) = none) ∧
    (byteAt loudProfile 30 = 1 ∧ byteAt loudProfile 39 = 1 ∧ byteAt loudProfile 48 = 1 ∧ byteAt loudProfile 57 = 1 ∧
      byteAt (loudProfile.set 59 16) 59 = 16 ∧ profileFields? (loudProfile.set 59 16) = none) ∧
    (byteAt ((loudProfile.set 62 0).set 63 8) 62 = 0 ∧ profileFields? ((loudProfile.set 62 0).set 63 8) = none) := by
  decide

/-- Witness for DisplayLinkUpdates: a step that changes a screen's effective section. -/
theorem witness_ScreenChangesHands :
    (idle.screen 1).eff = .a ∧ ((after (.screenSect .mdp [1, 1, 1, 1]) divided).screen 0).eff ≠ (divided.screen 0).eff := by
  decide

/-- Witness for TicksAndSources, SetTimeSetsTableTime and WalkInStartsASession, the acting chairs as in 3.4: the CHAIR-class seats
of the lead half B alone, and their order. -/
theorem witness_ActingChairs :
    (dueSoon.prepareTable waiting).mode = .joined ∧ (dueSoon.prepareTable waiting).lead = .b ∧
    (dueSoon.startBooking 2).secA.chairs = [12, 47] ∧ ((dueSoon.startBooking 2).seat 12).part =
      some ⟨.chair, none, none⟩ ∧ ((dueSoon.startBooking 2).seat 0).part = some ⟨.delegate, none, none⟩ := by decide

/-- Witness for FloorWritesTheFloorPart: a FLOOR that raises N serves the head of the queue in SESSION, and in CHAIR mode
holds it. -/
theorem witness_FloorAdvances :
    table47.secA.queue ≠ [] ∧ table47.priorityOn .a = false ∧ (table47.sect .a).state = .session ∧
    table47.delegateCount .a ≤ byteAt [0, 0, 6, 0] 2 ∧ floorModeOf? (byteAt [0, 0, 6, 0] 0) = some .open_ := by decide

/-- Witness for RosterCommandsChangeOneRoster: each field at its bound and past it, and a name cut and replaced. -/
theorem witness_RosterFields :
    (rosterEntries? [⟨47, 255, [0x1F, 0x20, 0x7E, 0x7F]⟩] = some [⟨47, [0x3F, 0x20, 0x7E, 0x3F], none⟩] ∧
      rosterEntries? [⟨0, 7, List.replicate 25 0x41⟩] = some [⟨0, List.replicate 24 0x41, some 7⟩]) ∧
    rosterEntries? [⟨0, 8, [0x41]⟩] = none ∧ rosterEntries? [⟨0, 7, []⟩] = none := by decide

/-- Witness for ExtendMovesTheEnd: the latest end is the next start at the end or after it. -/
theorem witness_LatestEnd :
    (ending (some 1060) 1179).latestEnd running 1060 = some 1179 ∧
    (ending (some 1060) 1060).latestEnd running 1060 = some 1060 := by decide

/-- Witness for LostSeatLeavesTheFloor: a seat of a running section with an occupant's name, and one without. -/
theorem witness_NamedSeatLost :
    ((with1 .session 3 fun r => { r with part := some ⟨.delegate, some [0x41], none⟩ }).seat 3).part =
        some ⟨.delegate, some [0x41], none⟩ ∧
    ((with1 .session 3 fun r => { r with part := some ⟨.delegate, some [0x41], none⟩ }).sect .a).state.running = true ∧
    (meeting .session).chairPorts .a = [.cpa, .cpb] ∧ (((meeting .session).seat 3).part.bind fun p => p.name) = none := by
  decide

/-- The open walk-in's meeting with the guard at 0. -/
def unguarded : State := { openMeeting with bookings := [openWalkIn], guardG := 0 }

/-- The open walk-in may be bounded at any minute from now on. -/
theorem boundable_unguarded {a : Nat} (h : 1010 ≤ a) : Boundable unguarded 1010 a [openWalkIn] := by
  have one : ∀ c, c ∈ [openWalkIn] → c = openWalkIn := fun c => List.mem_singleton.mp
  refine ⟨fun c m => ?_, fun c m => ?_, fun c m => ?_, fun c m => ?_, fun _ _ => h⟩ <;> rw [one c m]
  · refine ⟨rfl, rfl, rfl, by decide, fun d hd _ _ => one d hd, fun y hy => ?_⟩
    cases y
    · exact absurd rfl hy
    · exact nofun
  · rfl
  · rfl
  · exact .inl rfl

/-- Witness for BookAddsABooking and MoveChangesTheInterval: a start after now that bounds the open walk-in, inside and
outside the warning time, and one at now, with the guard at 0, which ends it. -/
theorem witness_BoundsAtNow :
    (Boundable unguarded 1010 1014 [openWalkIn] ∧ Boundable unguarded 1010 1010 [openWalkIn]) ∧
    (unguarded.conflicting none .joined (some 1014) (some 1020) = [openWalkIn] ∧
      unguarded.conflicting none .a (some 1010) (some 1020) = [openWalkIn] ∧
      unguarded.boundState 1010 1014 openWalkIn = .ending ∧ unguarded.boundState 1010 1016 openWalkIn = .session) ∧
    (unguarded.runningBooking .a = some openWalkIn ∧ unguarded.runningBooking .b = none) ∧
    ((after (.book .scp (bookPayload 0 7 0 1010 1020)) unguarded).secA.booking = some 3 ∧
      (after (.book .scp (bookPayload 0 7 0 1010 1020)) unguarded).mode = .divided ∧
      (after (.book .scp (bookPayload 0 7 0 1010 1020)) unguarded).bookings.length = 1) :=
  ⟨⟨boundable_unguarded (by decide), boundable_unguarded (by decide)⟩, by decide, by decide, by decide⟩

end Sys2Proof.Tests
end

section
/-! PROOF. What SEATMAP puts in the notice queue of the MDP (R14): the port records after a seat map entry is taken,
and the obligation on MISMATCH. -/

set_option autoImplicit false

namespace Sys2Proof.Machine

variable (s : State) (i : Seat) (e : MapEntry)

/-! ### Port records after the operations of SEATMAP -/

@[simp] theorem port_checkPresenter (x : Sect) (q : Port) : (s.checkPresenter x).port q = s.port q := by
  unfold State.checkPresenter
  split
  · rfl
  · exact port_modSect _ _ _ _

@[simp] theorem port_checkPresenters (q : Port) : s.checkPresenters.port q = s.port q := by
  simp [State.checkPresenters]

@[simp] theorem port_setEntry (q : Port) : (s.setEntry i e).port q = s.port q := port_modSeat _ _ _ _

/-- A SEAT notice to the MDP alone joins the MDP's queue, stamped with the seat's section and table time. -/
theorem port_seatNotice_mdp (d : NoticeDetail) :
    (s.seatNotice i [.mdp] d).port .mdp =
      joinQueue (s.notice (some (s.sectionOf i)) (some i) d) (s.port .mdp) := by
  simp [State.seatNotice, State.notify]

/-- A notice finds room in a queue below 16 (R193). -/
theorem joinQueue_notices_of_room (n : Notice) (r : PortRec) (room : r.notices.length < 16) :
    (joinQueue n r).notices = r.notices ++ [n] := by simp [joinQueue, room]

/-- The MDP's port as a seat map entry is taken: it gains at most the MISMATCH notice (R14). -/
theorem port_takeSeatMap_mdp :
    (s.takeSeatMap i e).port .mdp =
      if mismatched (s.seat i) e then
        joinQueue (s.notice (some (s.sectionOf i)) (some i) (.seatMismatch .delegateUnit)) (s.port .mdp)
      else s.port .mdp := by
  unfold State.takeSeatMap
  dsimp only
  rw [port_refresh, port_checkPresenters]
  split
  · rw [port_seatNotice_mdp, port_setEntry]
    rfl
  · exact port_setEntry _ _ _ _

/-- Placing a reply leaves the notice queue. -/
@[simp] theorem notices_placeReply_self (p : Port) (code : Byte) (rc : ReplyCode) (l : List Byte) :
    ((s.placeReply p code rc l).port p).notices = (s.port p).notices := by simp [State.placeReply]

/-! ### When SEATMAP raises MISMATCH -/

theorem mismatched_iff (r : SeatRec) :
    mismatched r e = true ↔ e.cls = .chair ∧ r.map.cls = .delegate ∧ r.kind = some .delegateUnit := by
  simp [mismatched, and_assoc]

/-- An entry that keeps the class, one of class DELEGATE, and a seat with no unit kind raise nothing. -/
theorem mismatched_eq_false (r : SeatRec) (h : e.cls = r.map.cls ∨ e.cls = .delegate ∨ r.kind = none) :
    mismatched r e = false := by
  rw [← Bool.not_eq_true, mismatched_iff]
  rintro ⟨chair, delegate, unit⟩
  rcases h with same | isDelegate | noUnit
  · rw [chair, delegate] at same
    cases same
  · rw [chair] at isDelegate
    cases isDelegate
  · rw [unit] at noUnit
    cases noUnit

/-! ### The command -/

/-- SEATMAP with every field in range, at an MDP that takes requests, writes the entry and answers with it (R197). -/
theorem exec_seatMap_taken (payload : List Byte) (h : s.takesFrom .mdp) (hl : payload.length = 5)
    (fields : seatMapFields? payload = some (i, e)) :
    exec (.seatMap .mdp payload) s =
      .next (((s.accepted .mdp payload.length).takeSeatMap i e).placeReply .mdp 0x65 .ok (encEntry e)) := by
  show execSeatMap .mdp payload s = _
  unfold execSeatMap
  rw [decide_eq_true hl, transact_taken s .mdp _ payload _ _ (by omega) h (List.mem_singleton.2 rfl), fields]
  rfl

/-- The MDP's notice queue after a SEATMAP whose entry is taken: at most the MISMATCH notice has joined it (R14). -/
theorem notices_seatMap_taken (n : Nat) :
    ((((s.accepted .mdp n).takeSeatMap i e).placeReply .mdp 0x65 .ok (encEntry e)).port .mdp).notices =
      if mismatched (s.seat i) e then
        (joinQueue (s.notice (some (s.sectionOf i)) (some i) (.seatMismatch .delegateUnit))
          (acceptedRecord s.starting n (s.port .mdp))).notices
      else (s.port .mdp).notices := by
  rw [notices_placeReply_self, port_takeSeatMap_mdp, seat_accepted, sectionOf_accepted, port_accepted_self]
  split <;> rfl

/-- Settles O11: the MDP's queue after the command, by whether the entry mismatches. -/
theorem seatMapRaisesMismatch : Obligations.SeatMapRaisesMismatch := by
  intro payload s i e h hl fields
  refine ⟨_, exec_seatMap_taken s i e payload h hl fields, ?_, ?_⟩
  · intro chair delegate unit room
    have raises : mismatched (s.seat i) e = true := (mismatched_iff e _).2 ⟨chair, delegate, unit⟩
    rw [notices_seatMap_taken, if_pos raises]
    exact joinQueue_notices_of_room _ _ room
  · intro quiet
    rw [notices_seatMap_taken, mismatched_eq_false e _ quiet]
    rfl

end Sys2Proof.Machine
end

section
/-! PROOF. The arithmetic of the audio mix (R104 to R110): scaling and saturation, contributions, distances and
neighbour factors, the mixed set and the gains, and the obligation that states them. -/

set_option autoImplicit false

namespace Sys2Proof.Machine

/-! ### Scaling and saturation (R105) -/

/-- Round-scale is the floor of its quotient, bounded on both sides. -/
theorem roundScale_bounds (v : Int) (g : Nat) :
    16384 * roundScale v g ≤ v * g + 8192 ∧ v * g + 8192 < 16384 * (roundScale v g + 1) := by
  unfold roundScale
  omega

/-- The gain 16384 is one. -/
@[simp] theorem roundScale_unit (v : Int) : roundScale v 16384 = v := by
  unfold roundScale
  omega

theorem saturate_below {v : Int} (h : v < -8388608) : saturate v = -8388608 := if_pos h

theorem saturate_above {v : Int} (h : 8388607 < v) : saturate v = 8388607 := by
  unfold saturate
  rw [if_neg (by omega), if_pos h]

theorem saturate_within {v : Int} (low : -8388608 ≤ v) (high : v ≤ 8388607) : saturate v = v := by
  unfold saturate
  rw [if_neg (by omega), if_neg (by omega)]

theorem clipDir?_negative_iff (v : Int) : clipDir? v = some .negative ↔ v < -8388608 := by
  unfold clipDir?
  split
  · next low => exact iff_of_true rfl low
  · next low => split <;> exact iff_of_false nofun low

theorem clipDir?_positive_iff (v : Int) : clipDir? v = some .positive ↔ 8388607 < v := by
  unfold clipDir?
  split
  · next low => exact iff_of_false nofun (by omega)
  · split
    · next high => exact iff_of_true rfl high
    · next high => exact iff_of_false nofun high

/-- A value clips in no direction just where saturate leaves it. -/
theorem clipDir?_none_iff (v : Int) : clipDir? v = none ↔ saturate v = v := by
  unfold clipDir?
  split
  · next low =>
    rw [saturate_below low]
    exact iff_of_false nofun (by omega)
  · split
    · next high =>
      rw [saturate_above high]
      exact iff_of_false nofun (by omega)
    · exact iff_of_true rfl (saturate_within (by omega) (by omega))

/-! ### Contributions (R106, R107) -/

/-- The contribution is the floor of its quotient, bounded on both sides. -/
theorem contribution_bounds (x : Int) (trim ramp : Nat) :
    32 * contribution x trim ramp ≤ roundScale x trim * ramp + 16 ∧
      roundScale x trim * ramp + 16 < 32 * (contribution x trim ramp + 1) := by
  unfold contribution
  omega

/-- At ramp level 32 the trimmed sample passes whole. -/
@[simp] theorem contribution_full (x : Int) (trim : Nat) : contribution x trim 32 = roundScale x trim := by
  unfold contribution
  omega

/-- At ramp level 0 nothing passes. -/
@[simp] theorem contribution_zero (x : Int) (trim : Nat) : contribution x trim 0 = 0 := by
  simp [contribution]

/-! ### The mixed set (R104) -/

theorem holdsSlot_iff (m : Mic) : m.holdsSlot = true ↔ m = .active ∨ m = .suspended ∨ m = .closing := by
  cases m <;> decide

theorem mem_mixedSet (s : State) (x : Sect) (i : Seat) :
    i ∈ s.mixedSet x ↔ s.sectionOf i = x ∧ (s.seat i).mic.holdsSlot = true :=
  mem_seatsWhere s x i _

/-- The seats of a section that pass a test, as one filter of all seats. -/
theorem seatsWhere_eq (s : State) (x : Sect) (f : SeatRec → Bool) :
    s.seatsWhere x f = (List.finRange 48).filter fun i => s.sectionOf i = x ∧ f (s.seat i) = true := by
  simp [State.seatsWhere, State.seatsOf, seatList, List.filter_filter, and_comm]

theorem mixedSet_eq (s : State) (x : Sect) :
    s.mixedSet x = (List.finRange 48).filter fun i => s.sectionOf i = x ∧
      ((s.seat i).mic = .active ∨ (s.seat i).mic = .suspended ∨ (s.seat i).mic = .closing) := by
  simp only [State.mixedSet, seatsWhere_eq, holdsSlot_iff]

theorem nom_eq (s : State) (x : Sect) :
    s.nom x = ((List.finRange 48).filter fun i => s.sectionOf i = x ∧ (s.seat i).mic = .active).length := by
  simp only [State.nom, seatsWhere_eq, decide_eq_true_eq]

/-- A seat of the mixed set is among the contributions with its own. -/
theorem mem_contributions (s : State) (x : Sect) (i : Seat) (h : i ∈ s.mixedSet x) :
    (i, contribution (sampleOf s.place (s.seat i)) (s.seat i).map.trim (s.seat i).ramp) ∈ s.contributions x :=
  List.mem_map_of_mem h

/-- A SUSPENDED seat stays in the mixed set of its section. -/
theorem suspended_mem_mixedSet (s : State) (i : Seat) (h : (s.seat i).mic = .suspended) :
    i ∈ s.mixedSet (s.sectionOf i) := by
  rw [mem_mixedSet, h]
  exact ⟨rfl, rfl⟩

/-! ### Distances and factors (R109) -/

theorem distance_same_side {i j : Seat} (h : seatSide i = seatSide j) :
    distance i j = max (seatPos i) (seatPos j) - min (seatPos i) (seatPos j) := by
  simp only [distance, if_pos h]
  omega

theorem distance_across {i j : Seat} (h : seatSide i ≠ seatSide j) :
    distance i j = max (seatPos i) (seatPos j) - min (seatPos i) (seatPos j) + 1 := by
  simp only [distance, if_neg h]
  omega

theorem seatSide_eq_iff (i j : Seat) : seatSide i = seatSide j ↔ (i.val < 24 ↔ j.val < 24) := by
  unfold seatSide
  by_cases hi : i.val < 24 <;> by_cases hj : j.val < 24 <;> simp [hi, hj]

/-- A side and a position name one seat. -/
theorem seat_ext {i j : Seat} (side : seatSide i = seatSide j) (pos : seatPos i = seatPos j) : i = j := by
  rw [seatSide_eq_iff] at side
  unfold seatPos at pos
  ext
  omega

/-- Two different seats are at distance 1 or more. -/
theorem one_le_distance {i j : Seat} (h : i ≠ j) : 1 ≤ distance i j := by
  by_cases side : seatSide i = seatSide j
  · have pos : seatPos i ≠ seatPos j := fun e => h (seat_ext side e)
    rw [distance_same_side side]
    omega
  · rw [distance_across side]
    omega

theorem neighbourFactor_beyond (p : Profile) {d : Nat} (h : 4 ≤ d) : neighbourFactor p d = p.d4 := by
  unfold neighbourFactor
  rw [if_neg (by omega), if_neg (by omega), if_neg (by omega)]

/-! ### Gains (R108) -/

/-- Each bus gain is 16384 / √NOM rounded, squared out. -/
theorem busGain_rounds (n : Nat) (low : 1 ≤ n) (high : n ≤ 8) :
    n * (2 * busGain n - 1) ^ 2 ≤ 32768 ^ 2 ∧ 32768 ^ 2 ≤ n * (2 * busGain n + 1) ^ 2 := by
  have table : ∀ m : Fin 9, 1 ≤ m.val →
      m.val * (2 * busGain m - 1) ^ 2 ≤ 32768 ^ 2 ∧ 32768 ^ 2 ≤ m.val * (2 * busGain m + 1) ^ 2 := by decide
  exact table ⟨n, by omega⟩ low

/-! ### The obligation -/

/-- Settles O25: each clause is the rule of its operation, and the silent SUSPENDED seat is a member of the mixed set
whose ramp level 0 makes its contribution 0. -/
theorem mixArithmetic : Obligations.MixArithmetic := by
  refine ⟨⟨roundScale_bounds, by decide, by decide, roundScale_unit, fun v => ⟨saturate_below, saturate_above,
      saturate_within, clipDir?_none_iff v, clipDir?_positive_iff v, clipDir?_negative_iff v⟩⟩,
    ⟨fun x trim ramp _ => contribution_bounds x trim ramp,
      fun x trim => ⟨contribution_full x trim, contribution_zero x trim⟩, fun s i suspended silent => ?_⟩,
    ⟨fun _ _ => distance_same_side, fun _ _ => distance_across, fun _ _ => one_le_distance,
      fun p => ⟨rfl, rfl, rfl, fun _ => neighbourFactor_beyond p⟩, by decide⟩,
    fun s x => ⟨mixedSet_eq s x, rfl, nom_eq s x⟩, ⟨by decide, busGain_rounds⟩, fun _ _ _ _ => rfl⟩
  have mixed := suspended_mem_mixedSet s i suspended
  have share := mem_contributions s _ i mixed
  rw [silent, contribution_zero] at share
  exact ⟨mixed, share⟩

end Sys2Proof.Machine
end

section
/-! PROOF. What leaves the place in the ring cycle, and with it the frame count (R112): the shared operations of every
block but the mix engine, in the order of the model. -/

set_option autoImplicit false

namespace Sys2Proof.Machine

variable (s : State) (x : Sect) (i : Seat)

/-! ### Folds and moves at the floor -/

/-- A step at the floor of a section leaves the place. -/
theorem FloorMove.place {x : Sect} {s t : State} (h : FloorMove x s t) : t.place = s.place :=
  h.step.frame.base.place

/-- Folding operations that leave the place leaves it. -/
theorem foldl_place {α : Type} (f : State → α → State) (hf : ∀ t a, (f t a).place = t.place) (l : List α) :
    (l.foldl f s).place = s.place := by
  induction l generalizing s with
  | nil => rfl
  | cons a rest ih => exact (ih _).trans (hf s a)

/-! ### Screens and presenters -/

@[simp] theorem refresh_place : s.refresh.place = s.place := (floorMove_refresh s .a).place

@[simp] theorem reassignScreens_place : s.reassignScreens.place = s.place := rfl

@[simp] theorem checkPresenters_place : s.checkPresenters.place = s.place := (floorMove_checkPresenters s .a).place

@[simp] theorem removePresenter_place : (s.removePresenter x).place = s.place := modSect_place s x _

@[simp] theorem screenNotice_place (n : ScreenNo) : (s.screenNotice n).place = s.place := notify_place _ _ s

/-! ### The floor -/

@[simp] theorem turnNotice_place (e : TurnEvent) (added : Option Nat) : (s.turnNotice i e added).place = s.place :=
  notify_place _ _ s

@[simp] theorem queueNotice_place (seat : Option Seat) (c : QueueChange) (why : QueueReason)
    (cause : Option RefusalCause) (e : Option QEntry) (n : Option Nat) :
    (s.queueNotice x seat c why cause e n).place = s.place := notify_place _ _ s

@[simp] theorem grant_place (why : FloorReason) : (s.grant i why).place = s.place :=
  (floorMove_grant s _ i rfl why).place

@[simp] theorem close_place (why : FloorReason) : (s.close i why).place = s.place :=
  (floorMove_close s _ i rfl why).place

@[simp] theorem closeAll_place (why : FloorReason) (l : List Seat) : (closeAll why l s).place = s.place :=
  foldl_place s _ (fun t j => close_place t j why) l

@[simp] theorem arbiter_place (fuel : Nat) : (State.arbiter fuel x s).place = s.place :=
  (floorMove_arbiter s x fuel).place

@[simp] theorem removeEntry_place (why : QueueReason) : (s.removeEntry x i why).place = s.place :=
  (floorMove_removeEntry s x i why).place

@[simp] theorem denial_place : (s.denial i).place = s.place := modSeat_place s i _

/-- The advance, whatever the queue holds (R50). -/
@[simp] theorem advance_place (fuel : Nat) : (State.advance fuel x s).place = s.place := by
  induction fuel generalizing s with
  | zero => rfl
  | succ n ih =>
    unfold State.advance
    repeat' split
    all_goals simp [ih]

@[simp] theorem joinConsole_place : (s.joinHolders x .console).place = s.place :=
  (floorMove_joinHolders s x .console fun _ h => nomatch h).place

@[simp] theorem leaveConsole_place : (s.leaveHolders x .console).place = s.place :=
  (floorMove_leaveHolders s x .console fun _ h => nomatch h).place

/-! ### Sessions -/

@[simp] theorem sessionNotice_place (before : SectState) (why : SessionReason) (source : Option CheckInSource)
    (seat : Option Seat) (b : Option Booking) : (s.sessionNotice x before why source seat b).place = s.place :=
  notify_place _ _ s

@[simp] theorem bookingNotice_place (ports : List Port) (b : Booking) (c : BookingChange) (why : Option BookingReason)
    (ended : Option EndReason) (oldStop : Option Nat) : (s.bookingNotice ports b c why ended oldStop).place = s.place :=
  notify_place _ _ s

@[simp] theorem retriggerIdle_place : (s.retriggerIdle x).place = s.place := (floorMove_retriggerIdle s x).place

@[simp] theorem settleIdle_place (was : Bool) : (s.settleIdle x was).place = s.place :=
  (floorMove_settleIdle s x was).place

@[simp] theorem enterOpen_place (why : SessionReason) (source : Option CheckInSource) (seat : Option Seat) :
    (s.enterOpen x why source seat).place = s.place := (floorMove_enterOpen s x why source seat).place

@[simp] theorem checkIn_place (source : CheckInSource) (seat : Option Seat) :
    (s.checkIn x source seat).place = s.place := enterOpen_place s x _ _ _

@[simp] theorem testWarning_place : (s.testWarning x).place = s.place := (floorMove_testWarning s x).place

@[simp] theorem testEnding_place (why : SessionReason) : (s.testEnding x why).place = s.place :=
  (floorMove_testEnding s x why).place

@[simp] theorem endChanged_place : (s.endChanged x).place = s.place := (floorMove_endChanged s x).place

@[simp] theorem endSession_place (why : EndReason) : (s.endSession x why).place = s.place :=
  (floorMove_endSession s x why).place

@[simp] theorem endHeld_place (b : Booking) : (s.endHeld b x).place = s.place := (floorMove_endHeld s x b).place

@[simp] theorem overrunBound_place : (s.overrunBound x).place = s.place := (floorMove_overrunBound s x).place

@[simp] theorem enterOverrun_place : (s.enterOverrun x).place = s.place := (floorMove_enterOverrun s x).place

/-- An event at the floor controller leaves the place where its own changes do (R50, R67). -/
theorem floorEvent_place (always : Bool) (body : State → State) (h : (body s).place = s.place) :
    (s.floorEvent x always body).place = s.place := by
  unfold State.floorEvent
  dsimp only
  split <;> simp [h]

@[simp] theorem keyEvent_place (e : KeyEvent) : (s.keyEvent i e).place = s.place := by
  have acted (t : State) (ht : FloorMove (s.sectionOf i) s t) :
      (t.floorEvent (s.sectionOf i) false fun u => u.keyAction (s.sectionOf i) i e).refresh.place = s.place := by
    rw [refresh_place, floorEvent_place, ht.place]
    exact (floorMove_keyAction t _ i (ht.sectionOf i) e).place
  unfold State.keyEvent
  dsimp only
  repeat' split
  all_goals first
    | rfl
    | exact acted _ (floorMove_checkIn _ _ _ _)
    | exact acted _ (floorMove_retriggerIdle _ _)

@[simp] theorem startSession_place (b : Booking) : (s.startSession b).place = s.place := by
  unfold State.startSession
  dsimp only
  split <;> simp [State.giveParts]

@[simp] theorem endMinuteReached_place (b : Booking) : (s.endMinuteReached b).place = s.place := by
  unfold State.endMinuteReached
  dsimp only
  repeat' split
  all_goals simp

@[simp] theorem minuteReport_place (m : Nat) : (s.minuteReport x m).place = s.place := by
  unfold State.minuteReport
  repeat' split
  all_goals simp

@[simp] theorem divisionChange_place (m : Mode) (k : Nat) : (s.divisionChange m k).place = s.place := by
  unfold State.divisionChange
  dsimp only
  split <;> simp [State.switchB]

@[simp] theorem prepareTable_place (b : Booking) : (s.prepareTable b).place = s.place := by
  unfold State.prepareTable
  dsimp only
  repeat' split
  all_goals simp

@[simp] theorem startBooking_place (id : Nat) : (s.startBooking id).place = s.place := by
  unfold State.startBooking
  split <;> simp

/-! ### The calendar -/

@[simp] theorem addBooking_place (b : Booking) : (s.addBooking b).place = s.place := rfl

@[simp] theorem relocate_place (b : Booking) : (s.relocate b).place = s.place := rfl

@[simp] theorem setEnd_place (id e : Nat) (why : BookingReason) : (s.setEnd id e why).place = s.place := by
  unfold State.setEnd
  split <;> simp

@[simp] theorem boundAll_place (l : List Booking) (start : Nat) : (s.boundAll l start).place = s.place :=
  foldl_place s _ (fun t (b : Booking) => setEnd_place t b.id start .bounded) l

@[simp] theorem reachEnd_place (id : Nat) : (s.reachEnd id).place = s.place := by
  unfold State.reachEnd
  repeat' split
  all_goals simp

@[simp] theorem startAtNow_place (now start id : Nat) (l : List Booking) :
    (s.startAtNow now start id l).place = s.place := by
  unfold State.startAtNow
  split
  · rw [startBooking_place, foldl_place s _ fun t (b : Booking) => reachEnd_place t b.id]
  · rfl

@[simp] theorem startDue_place (m : Nat) : (s.startDue m).place = s.place :=
  foldl_place s _ (fun t id => startBooking_place t id) _

@[simp] theorem minuteEvent_place (m : Nat) : (s.minuteEvent m).place = s.place := by
  unfold State.minuteEvent
  dsimp only
  rw [startDue_place, foldl_place _ _ fun t id => reachEnd_place t id]
  simp

@[simp] theorem endPast_place (m : Nat) : (s.endPast m).place = s.place := by
  refine foldl_place s _ (fun t b => ?_) _
  split
  · exact endSession_place _ _ _
  · rfl

@[simp] theorem expirePast_place (m : Nat) : (s.expirePast m).place = s.place :=
  foldl_place s _ (fun t b => by simp) _

@[simp] theorem setTime_place (m sec : Nat) : (s.setTime m sec).place = s.place := by
  unfold State.setTime
  dsimp only
  split <;> simp [State.giveStarts]

@[simp] theorem clearTable_place : s.clearTable.place = s.place := by
  have cleared (t : State) (y : Sect) : (t.clearSection y).place = t.place := by
    unfold State.clearSection
    split <;> simp
  simp [State.clearTable, cleared]

/-! ### Ports and the store -/

@[simp] theorem shiftOut_place (p : Port) (rest : List Byte) : (s.shiftOut p rest).place = s.place :=
  modPort_place s p _

@[simp] theorem markFraming_place (p : Port) : (s.markFraming p).place = s.place := modPort_place s p _

@[simp] theorem shiftDiscarded_place (p : Port) (bytes : List Byte) : (s.shiftDiscarded p bytes).place = s.place := by
  cases bytes with
  | nil => exact modPort_place s p _
  | cons code rest => exact shiftOut_place s p _

@[simp] theorem fetch_place (p : Port) (n : Nat) : (s.fetch p n).place = s.place := by
  unfold State.fetch
  dsimp only
  repeat' split
  all_goals simp

@[simp] theorem writeTable_place : s.writeTable.place = s.place := by
  unfold State.writeTable
  split <;> rfl

@[simp] theorem completeWrite_place (j : WriteJob) : (s.completeWrite j).place = s.place := by
  have next (t : State) : t.nextWrite.place = t.place := by
    unfold State.nextWrite
    split <;> rfl
  unfold State.completeWrite
  rw [next]
  cases j <;> simp [State.completionReply]

theorem answerTo_place (p : Port) (code : Byte) (t : Taken) : (answerTo p code t).place = t.1.place := by
  unfold answerTo
  split <;> simp

/-- A request leaves the place where the block that owns it does (R191). -/
theorem transact_place (p : Port) (code : Byte) (payload : List Byte) (allowed : List Port) (lenOk : Bool)
    (body : State → Taken) (h : ∀ t, (body t).1.place = t.place) :
    (s.transact p code payload allowed lenOk body).place = s.place := by
  have checked (t : State) : (t.take p allowed lenOk body).1.place = t.place := by
    unfold State.take
    repeat' split
    all_goals first
      | rfl
      | exact h t
  unfold State.transact
  dsimp only
  repeat' split
  all_goals simp [answerTo_place, checked]

/-! ### The seat rings -/

@[simp] theorem openVisit_place (d : Side) : (s.openVisit d).place = s.place := setRing_place s d _

@[simp] theorem closeVisit_place (d : Side) : (s.closeVisit d).place = s.place := setRing_place s d _

@[simp] theorem seatNotice_place (ports : List Port) (d : NoticeDetail) : (s.seatNotice i ports d).place = s.place :=
  notify_place _ _ s

@[simp] theorem enterFault_place (n : Nat) (why : FaultReason) : (s.enterFault i n why).place = s.place := by
  simp [State.enterFault]

@[simp] theorem leaveReady_place (into : Presence) (bring : Nat) (why : LostCause) :
    (s.leaveReady i into bring why).place = s.place := by
  unfold State.leaveReady
  dsimp only
  rw [refresh_place, checkPresenters_place, floorEvent_place]
  · simp
  · refine (floorMove_loseSeat _ _ i ?_).place
    simp [State.seatNotice]

@[simp] theorem missLimit_place : (s.missLimit i).place = s.place := by
  unfold State.missLimit
  split <;> simp [State.leaveFault]

@[simp] theorem missVisit_place : (s.missVisit i).place = s.place := by
  unfold State.missVisit
  dsimp only
  repeat' split
  all_goals simp

@[simp] theorem takeEvent_place (seq : Nat) (e : KeyEvent) : (s.takeEvent i seq e).place = s.place := by
  unfold State.takeEvent
  split <;> simp

@[simp] theorem takeEvents_place (seq : Nat) (l : List KeyEvent) : (s.takeEvents i seq l).place = s.place := by
  induction l generalizing s seq with
  | nil => rfl
  | cons e rest ih => exact (ih _ _).trans (takeEvent_place s i _ e)

@[simp] theorem answerPowering_place (good : Bool) : (s.answerPowering i good).place = s.place := by
  unfold State.answerPowering
  repeat' split
  all_goals simp

@[simp] theorem identified_place (k : UnitKind) : (s.identified i k).place = s.place := by
  unfold State.identified
  dsimp only
  split <;> simp

/-- An answer, in whatever presence state it finds the seat (R3). -/
@[simp] theorem answered_place (m : UpMsg) : (s.answered i m).place = s.place := by
  unfold State.answered
  repeat' split
  all_goals simp [State.answerDetected, State.becomeReady, State.answerReady]

@[simp] theorem reseat_place : (s.reseat i).place = s.place := by
  unfold State.reseat
  split <;> simp

/-! ### The clock and the display link -/

@[simp] theorem countSeat_place : (s.countSeat x i).place = s.place := by
  have turn (t : State) : (t.countTurnOf x i).place = t.place := by
    unfold State.countTurnOf
    dsimp only
    repeat' split
    all_goals simp
  unfold State.countSeat State.countSpeaking
  rw [turn]
  dsimp only
  split <;> simp

@[simp] theorem countEvent_place : (s.countEvent x).place = s.place := by
  unfold State.countEvent
  dsimp only
  rw [refresh_place, modSect_place]
  exact foldl_place s _ (fun t j => countSeat_place t x j) _

@[simp] theorem advanceTime_place : s.advanceTime.place = s.place := by
  unfold State.advanceTime
  repeat' split
  all_goals simp

@[simp] theorem poll_place : s.poll.place = s.place := by
  unfold State.poll
  repeat' split
  all_goals simp

@[simp] theorem tick_place : s.tick.place = s.place :=
  (poll_place s.advanceTime).trans (advanceTime_place s)

@[simp] theorem bringOnline_place (n : ScreenNo) : (s.bringOnline n).place = s.place := by
  unfold State.bringOnline
  dsimp only
  split <;> simp

@[simp] theorem sendIfDue_place (n : ScreenNo) : (s.sendIfDue n).place = s.place := rfl

@[simp] theorem loadComplete_place : s.loadComplete.place = s.place := by
  simp [State.loadComplete]

end Sys2Proof.Machine
end

section
/-! PROOF. The frame count (R112): every command but a frame and a hardware reset leaves the place in the ring cycle, a
frame advances it, and the obligation on the two. -/

set_option autoImplicit false

namespace Sys2Proof.Machine

variable (s : State) (x : Sect) (i : Seat) (p : Port) (payload : List Byte)

/-! ### Requests as they are taken (R32, R51) -/

@[simp] theorem refused_fst (code : ReplyCode) : (s.refused code).1 = s := rfl

@[simp] theorem ok_fst (l : List Byte) : (s.ok l).1 = s := rfl

theorem asChair_place (body : Sect → State → Taken) (h : ∀ x u, (body x u).1.place = u.place) :
    (s.asChair p body).1.place = s.place := by
  unfold State.asChair
  split <;> simp [h]

theorem withSeat_place (n : Nat) (f : Seat → Taken) (h : ∀ i, (f i).1.place = s.place) :
    (s.withSeat x n f).1.place = s.place := by
  unfold State.withSeat
  repeat' split
  all_goals simp [h]

theorem whenOpen_place (t : Taken) (h : t.1.place = s.place) : (s.whenOpen x t).1.place = s.place := by
  unfold State.whenOpen
  split <;> simp [h]

theorem withFlag_place (n : Nat) (f : Bool → Taken) (h : ∀ b, (f b).1.place = s.place) :
    (s.withFlag n f).1.place = s.place := by
  unfold State.withFlag
  split <;> simp [h]

theorem withTime_place (f : Nat → Taken) (h : ∀ m, (f m).1.place = s.place) : (s.withTime f).1.place = s.place := by
  unfold State.withTime
  split <;> simp [h]

theorem withBooking_place (id : Nat) (f : Booking → Taken) (h : ∀ b, (f b).1.place = s.place) :
    (s.withBooking id f).1.place = s.place := by
  unfold State.withBooking
  split <;> simp [h]

theorem withSection_place (n : Nat) (f : Sect → Taken) (h : ∀ x, (f x).1.place = s.place) :
    (s.withSection n f).1.place = s.place := by
  unfold State.withSection
  repeat' split
  all_goals simp [h]

/-! ### Chair commands as they are taken -/

theorem takeWalkIn_place (b : Booking) : (s.takeWalkIn b).1.place = s.place := by simp [State.takeWalkIn]

theorem walkIn_place (half : Sect) : (s.walkIn half payload).1.place = s.place := by
  unfold State.walkIn
  repeat' split
  all_goals simp [takeWalkIn_place]

theorem walkInFrom_place : (s.walkInFrom p payload).1.place = s.place := by
  unfold State.walkInFrom
  repeat' split
  all_goals simp [walkIn_place]

theorem checkInTaken_place (source : CheckInSource) : (s.checkInTaken x source).1.place = s.place := by
  unfold State.checkInTaken
  split <;> simp

theorem endTaken_place : (s.endTaken x).1.place = s.place := by
  unfold State.endTaken
  split <;> simp

theorem extendBooking_place (b : Booking) (e minutes : Nat) : (s.extendBooking x b e minutes).1.place = s.place := by
  unfold State.extendBooking
  repeat' split
  all_goals simp

theorem extendTaken_place (minutes : Nat) : (s.extendTaken x minutes).1.place = s.place := by
  unfold State.extendTaken
  repeat' split
  all_goals simp [extendBooking_place]

theorem grantTaken_place : (s.grantTaken x i).1.place = s.place := by
  unfold State.grantTaken
  repeat' split
  all_goals simp [floorEvent_place]

theorem denyTaken_place : (s.denyTaken x i).1.place = s.place := by
  unfold State.denyTaken
  repeat' split
  all_goals simp [floorEvent_place]

theorem nextTaken_place : (s.nextTaken x).1.place = s.place := by
  unfold State.nextTaken
  repeat' split
  all_goals simp [floorEvent_place]

theorem promoteTaken_place : (s.promoteTaken x i).1.place = s.place := by
  unfold State.promoteTaken
  dsimp only
  repeat' split
  all_goals simp [State.promoteEntry]

theorem closeTaken_place : (s.closeTaken x i).1.place = s.place := by
  unfold State.closeTaken
  split <;> simp [floorEvent_place]

theorem closeAllTaken_place : (s.closeAllTaken x).1.place = s.place := by
  simp [State.closeAllTaken, floorEvent_place]

theorem priorityTaken_place (on : Bool) : (s.priorityTaken x on).1.place = s.place := by
  cases on <;> simp [State.priorityTaken, floorEvent_place]

theorem floorTaken_place : (s.floorTaken x payload).1.place = s.place := by
  unfold State.floorTaken
  repeat' split
  all_goals simp [floorEvent_place]

theorem addTimeTaken_place (seconds : Nat) : (s.addTimeTaken x i seconds).1.place = s.place := by
  unfold State.addTimeTaken
  repeat' split
  all_goals simp [State.extendTurn]

theorem clockTaken_place (hold : Bool) : (s.clockTaken x hold).1.place = s.place := by simp [State.clockTaken]

theorem shareTaken_place : (s.shareTaken x i).1.place = s.place := by
  unfold State.shareTaken
  repeat' split
  all_goals simp

theorem unshareTaken_place : (s.unshareTaken x).1.place = s.place := by
  have removed : (s.unshare x).place = s.place := by
    unfold State.unshare
    split <;> simp
  unfold State.unshareTaken
  split <;> simp [removed]

/-! ### Scheduling commands as they are taken -/

theorem setTimeTaken_place (m sec : Nat) : (s.setTimeTaken m sec).1.place = s.place := by
  unfold State.setTimeTaken
  repeat' split
  all_goals simp

theorem bookTaken_place (now : Nat) : (s.bookTaken now payload).1.place = s.place := by
  have taken (b : Booking) (start : Nat) (l : List Booking) : (s.takeBook now b start l).1.place = s.place := by
    simp [State.takeBook]
  unfold State.bookTaken State.bookInterval
  dsimp only
  repeat' split
  all_goals simp [taken]

theorem rosterTaken_place (b : Booking) (es : List RosterEntry) : (s.rosterTaken b es).1.place = s.place := by
  unfold State.rosterTaken
  split <;> simp

theorem shrinkRoster_place (b : Booking) (l : List RosterEntry) : (s.shrinkRoster b l).1.place = s.place := by
  simp [State.shrinkRoster]

theorem takeMove_place (now : Nat) (b : Booking) (start stop : Nat) (l : List Booking) :
    (s.takeMove now b start stop l).1.place = s.place := by
  unfold State.takeMove
  split <;> simp

theorem movePending_place (now : Nat) (b : Booking) (start stop : Nat) :
    (s.movePending now b start stop).1.place = s.place := by
  unfold State.movePending
  dsimp only
  repeat' split
  all_goals simp [takeMove_place]

theorem moveRunning_place (now : Nat) (b : Booking) (start stop : Nat) :
    (s.moveRunning now b start stop).1.place = s.place := by
  unfold State.moveRunning
  repeat' split
  all_goals simp

theorem cancelTaken_place (now : Nat) (b : Booking) : (s.cancelTaken now b).1.place = s.place := by
  unfold State.cancelTaken
  repeat' split
  all_goals simp

/-! ### Commands that keep the place -/

/-- A command's outcome that leaves the place of a state, if it is a next state. -/
def KeepsPlace (s : State) (o : Host.Outcome State Fault Refusal) : Prop := ∀ t, o = .next t → t.place = s.place

variable {s} in
theorem keepsPlace_next {t : State} (h : t.place = s.place) : KeepsPlace s (.next t) := by
  rintro _ ⟨⟩
  exact h

/-- A request keeps the place where the block that owns it does. -/
theorem keepsPlace_request {p : Port} {code : Byte} {payload : List Byte} {allowed : List Port} {lenOk : Bool}
    {body : State → Taken} (h : ∀ t, (body t).1.place = t.place) :
    KeepsPlace s (.next (s.transact p code payload allowed lenOk body)) :=
  keepsPlace_next (transact_place s p code payload allowed lenOk body h)

/-- A chair command of a section keeps the place where its body does. -/
theorem keepsPlace_chair {p : Port} {code : Byte} {payload : List Byte} {allowed : List Port} {lenOk : Bool}
    {body : Sect → State → Taken} (h : ∀ x u, (body x u).1.place = u.place) :
    KeepsPlace s (.next (s.transact p code payload allowed lenOk fun t => t.asChair p body)) :=
  keepsPlace_request s fun t => asChair_place t p body h

/-- A chair command that names a seat of an open section keeps the place where its body does. -/
theorem keepsPlace_seat {p : Port} {code : Byte} {payload : List Byte} {allowed : List Port} {lenOk : Bool} {n : Nat}
    {body : Sect → State → Seat → Taken} (h : ∀ x u i, (body x u i).1.place = u.place) :
    KeepsPlace s (.next (s.transact p code payload allowed lenOk fun t => t.asChair p fun x u =>
      u.withSeat x n fun i => u.whenOpen x (body x u i))) :=
  keepsPlace_chair s fun x u => withSeat_place u x n _ fun i => whenOpen_place u x _ (h x u i)

/-! ### Events -/

theorem execStartUpLoadComplete_keepsPlace : KeepsPlace s (execStartUpLoadComplete s) := by
  refine keepsPlace_next ?_
  split <;> simp

theorem execVisitOpen_keepsPlace (d : Side) : KeepsPlace s (execVisitOpen d s) := by
  refine keepsPlace_next ?_
  split <;> simp

theorem execAnswerArrival_keepsPlace (d : Side) (m : UpMsg) : KeepsPlace s (execAnswerArrival d m s) := by
  refine keepsPlace_next ?_
  repeat' split
  all_goals simp

theorem execMissedVisit_keepsPlace (d : Side) : KeepsPlace s (execMissedVisit d s) := by
  refine keepsPlace_next ?_
  split <;> simp

theorem execMissCountLimit_keepsPlace (d : Side) : KeepsPlace s (execMissCountLimit d s) := by
  refine keepsPlace_next ?_
  repeat' split
  all_goals simp

theorem execPoweringTimeout_keepsPlace (d : Side) : KeepsPlace s (execPoweringTimeout d s) := by
  refine keepsPlace_next ?_
  repeat' split
  all_goals simp

theorem execFadeComplete_keepsPlace : KeepsPlace s (execFadeComplete i s) := by
  refine keepsPlace_next ?_
  split
  · exact (refresh_place _).trans (floorEvent_place s _ _ _ (modSeat_place s i _))
  · rfl

theorem execCountEvent_keepsPlace : KeepsPlace s (execCountEvent x s) := by
  refine keepsPlace_next ?_
  split <;> simp

theorem execExpired_keepsPlace : KeepsPlace s (execExpired i s) := by
  refine keepsPlace_next ?_
  repeat' split
  all_goals simp

theorem execExpiryClose_keepsPlace : KeepsPlace s (execExpiryClose i s) := by
  refine keepsPlace_next ?_
  split
  · split
    · exact (refresh_place _).trans ((floorEvent_place _ _ _ _ (close_place _ i _)).trans (modSeat_place s i _))
    · exact modSeat_place s i _
  · rfl

theorem execGraceExpiry_keepsPlace : KeepsPlace s (execGraceExpiry x s) := by
  refine keepsPlace_next ?_
  split <;> simp

theorem execIdleExpiry_keepsPlace : KeepsPlace s (execIdleExpiry x s) := by
  refine keepsPlace_next ?_
  split <;> simp

theorem execSecondTick_keepsPlace : KeepsPlace s (execSecondTick s) := by
  refine keepsPlace_next ?_
  split <;> simp

theorem execMinuteEvent_keepsPlace : KeepsPlace s (execMinuteEvent s) := by
  refine keepsPlace_next ?_
  repeat' split
  all_goals simp

theorem execSources_keepsPlace (present : Vector Bool 8) : KeepsPlace s (execSources present s) := by
  refine keepsPlace_next ?_
  split <;> simp

theorem execPollMissLimit_keepsPlace : KeepsPlace s (execPollMissLimit s) := by
  refine keepsPlace_next ?_
  repeat' split
  all_goals simp

theorem execAck_keepsPlace (screen version : Nat) : KeepsPlace s (execAck screen version s) := by
  refine keepsPlace_next ?_
  repeat' split
  all_goals simp

theorem execAckTimeout_keepsPlace (n : ScreenNo) : KeepsPlace s (execAckTimeout n s) := by
  refine keepsPlace_next ?_
  repeat' split
  all_goals simp

theorem execHello_keepsPlace (screen : Nat) : KeepsPlace s (execHello screen s) := by
  refine keepsPlace_next ?_
  repeat' split
  all_goals simp

theorem execStoreWriteComplete_keepsPlace : KeepsPlace s (execStoreWriteComplete s) := by
  refine keepsPlace_next ?_
  split <;> simp

theorem execFraming_keepsPlace (t : Clocked) : KeepsPlace s (execFraming p t s) := by
  refine keepsPlace_next ?_
  split <;> simp

/-! ### Requests -/

theorem execIllegal_keepsPlace (code : Byte) : KeepsPlace s (execIllegal p code payload s) := by
  refine keepsPlace_next ?_
  split
  · rfl
  · exact transact_place s p code payload _ _ _ fun t => rfl

theorem execReadSeat_keepsPlace : KeepsPlace s (execReadSeat p payload s) :=
  keepsPlace_request s fun t => by split <;> rfl

theorem execReadSect_keepsPlace : KeepsPlace s (execReadSect p payload s) :=
  keepsPlace_request s fun t => by split <;> rfl

theorem execReadQueue_keepsPlace : KeepsPlace s (execReadQueue p payload s) :=
  keepsPlace_request s fun t => by split <;> rfl

theorem execCheckIn_keepsPlace : KeepsPlace s (execCheckIn p payload s) := by
  refine keepsPlace_request s fun t => ?_
  split
  · split <;> simp [checkInTaken_place]
  · exact asChair_place t p _ fun x u => checkInTaken_place u x _

theorem execPriority_keepsPlace : KeepsPlace s (execPriority p payload s) :=
  keepsPlace_chair s fun x u => withFlag_place u _ _ fun on => whenOpen_place u x _ (priorityTaken_place u x on)

theorem execClock_keepsPlace : KeepsPlace s (execClock p payload s) :=
  keepsPlace_chair s fun x u => withFlag_place u _ _ fun hold => whenOpen_place u x _ (clockTaken_place u x hold)

theorem execShare_keepsPlace : KeepsPlace s (execShare p payload s) := by
  refine keepsPlace_request s fun t => ?_
  split
  · split <;> simp [shareTaken_place]
  · exact asChair_place t p _ fun x u => withSeat_place u x _ _ fun i => shareTaken_place u x i

theorem execUnshare_keepsPlace : KeepsPlace s (execUnshare p payload s) := by
  refine keepsPlace_request s fun t => ?_
  split
  · split <;> simp [unshareTaken_place]
  · refine asChair_place t p _ fun x u => ?_
    split <;> simp [unshareTaken_place]

theorem execRoster_keepsPlace : KeepsPlace s (execRoster p payload s) := by
  refine keepsPlace_request s fun t => withBooking_place t _ _ fun b => ?_
  split <;> simp [rosterTaken_place]

theorem execUnroster_keepsPlace : KeepsPlace s (execUnroster p payload s) := by
  refine keepsPlace_request s fun t => withBooking_place t _ _ fun b => ?_
  repeat' split
  all_goals simp [shrinkRoster_place]

theorem execMove_keepsPlace : KeepsPlace s (execMove p payload s) := by
  refine keepsPlace_request s fun t => withTime_place t _ fun now => withBooking_place t _ _ fun b => ?_
  split <;> simp [movePending_place, moveRunning_place]

theorem execFreeze_keepsPlace : KeepsPlace s (execFreeze p payload s) := by
  refine keepsPlace_request s fun t => ?_
  split <;> simp

theorem execList_keepsPlace : KeepsPlace s (execList p payload s) := by
  refine keepsPlace_request s fun t => withTime_place t _ fun _ => ?_
  split <;> rfl

theorem execReadBook_keepsPlace : KeepsPlace s (execReadBook p payload s) := by
  refine keepsPlace_request s fun t => withTime_place t _ fun _ => withBooking_place t _ _ fun b => ?_
  repeat' split
  all_goals rfl

theorem execTrim_keepsPlace : KeepsPlace s (execTrim p payload s) := by
  refine keepsPlace_request s fun t => ?_
  split <;> simp [State.setEntry]

theorem execNeighbour_keepsPlace : KeepsPlace s (execNeighbour p payload s) :=
  keepsPlace_request s fun t => withSection_place t _ _ fun x => modSect_place t x _

theorem execVolume_keepsPlace : KeepsPlace s (execVolume p payload s) :=
  keepsPlace_request s fun t => withSection_place t _ _ fun x => modSect_place t x _

theorem execLayout_keepsPlace : KeepsPlace s (execLayout p payload s) := by
  refine keepsPlace_request s fun t => ?_
  split
  · exact withSection_place t _ _ fun x => by simp [State.modSettings]
  · rfl

theorem execScreen_keepsPlace : KeepsPlace s (execScreen p payload s) :=
  keepsPlace_request s fun t => by split <;> rfl

theorem execScreenSect_keepsPlace : KeepsPlace s (execScreenSect p payload s) := by
  refine keepsPlace_request s fun t => ?_
  split <;> simp [State.assignScreens]

theorem execSplit_keepsPlace : KeepsPlace s (execSplit p payload s) := by
  have applied (t : State) (k : Nat) (m : Mode) : (t.applySplit k m).place = t.place := by
    unfold State.applySplit
    split <;> simp
  refine keepsPlace_request s fun t => ?_
  repeat' split
  all_goals simp [applied]

theorem execSeatMap_keepsPlace : KeepsPlace s (execSeatMap p payload s) := by
  have taken (t : State) (i : Seat) (e : MapEntry) : (t.takeSeatMap i e).place = t.place := by
    unfold State.takeSeatMap
    dsimp only
    split <;> simp [State.setEntry]
  refine keepsPlace_request s fun t => ?_
  split <;> simp [taken]

theorem execProfile_keepsPlace : KeepsPlace s (execProfile p payload s) :=
  keepsPlace_request s fun t => by split <;> rfl

theorem beginWrite_place (j : WriteJob) : (s.beginWrite j).1.place = s.place := by
  unfold State.beginWrite
  split <;> rfl

theorem execStoreProf_keepsPlace : KeepsPlace s (execStoreProf p payload s) := by
  refine keepsPlace_request s fun t => ?_
  split <;> simp [beginWrite_place]

theorem execReseat_keepsPlace : KeepsPlace s (execReseat p payload s) := by
  refine keepsPlace_request s fun t => ?_
  repeat' split
  all_goals simp

/-- Every command but a frame and a hardware reset leaves the place (R112). -/
theorem exec_keepsPlace (c : Instr) (frame : c ≠ .audioFrame) (step : c ≠ .rampStep) (reset : c ≠ .hardwareReset) :
    KeepsPlace s (exec c s) := by
  cases c with
  | hardwareReset => exact absurd rfl reset
  | audioFrame => exact absurd rfl frame
  | rampStep => exact absurd rfl step
  | startUpLoadComplete => exact execStartUpLoadComplete_keepsPlace s
  | visitOpen d => exact execVisitOpen_keepsPlace s d
  | answerArrival d m => exact execAnswerArrival_keepsPlace s d m
  | missedVisit d => exact execMissedVisit_keepsPlace s d
  | missCountLimit d => exact execMissCountLimit_keepsPlace s d
  | poweringTimeout d => exact execPoweringTimeout_keepsPlace s d
  | fadeComplete i => exact execFadeComplete_keepsPlace s i
  | countEvent x => exact execCountEvent_keepsPlace s x
  | expired i => exact execExpired_keepsPlace s i
  | expiryClose i => exact execExpiryClose_keepsPlace s i
  | graceExpiry x => exact execGraceExpiry_keepsPlace s x
  | idleExpiry x => exact execIdleExpiry_keepsPlace s x
  | secondTick => exact execSecondTick_keepsPlace s
  | minuteEvent => exact execMinuteEvent_keepsPlace s
  | sources present => exact execSources_keepsPlace s present
  | pollMissLimit => exact execPollMissLimit_keepsPlace s
  | ack n v => exact execAck_keepsPlace s n v
  | ackTimeout n => exact execAckTimeout_keepsPlace s n
  | hello n => exact execHello_keepsPlace s n
  | storeWriteComplete => exact execStoreWriteComplete_keepsPlace s
  | status r => exact keepsPlace_next (shiftOut_place s r.port _)
  | fetch p n => exact keepsPlace_next (fetch_place s p n)
  | framing p t => exact execFraming_keepsPlace s p t
  | illegal p code l => exact execIllegal_keepsPlace s p l code
  | readSeat p l => exact execReadSeat_keepsPlace s p l
  | readSect p l => exact execReadSect_keepsPlace s p l
  | readQueue p l => exact execReadQueue_keepsPlace s p l
  | walkIn p l => exact keepsPlace_request s fun t => walkInFrom_place t p l
  | checkIn p l => exact execCheckIn_keepsPlace s p l
  | endMeeting p l => exact keepsPlace_chair s fun x u => endTaken_place u x
  | extend p l => exact keepsPlace_chair s fun x u => extendTaken_place u x _
  | grant p l => exact keepsPlace_seat s fun x u i => grantTaken_place u x i
  | deny p l => exact keepsPlace_seat s fun x u i => denyTaken_place u x i
  | close p l => exact keepsPlace_seat s fun x u i => closeTaken_place u x i
  | closeAll p l => exact keepsPlace_chair s fun x u => whenOpen_place u x _ (closeAllTaken_place u x)
  | nextSeat p l => exact keepsPlace_chair s fun x u => whenOpen_place u x _ (nextTaken_place u x)
  | promote p l => exact keepsPlace_seat s fun x u i => promoteTaken_place u x i
  | priority p l => exact execPriority_keepsPlace s p l
  | floor p l => exact keepsPlace_chair s fun x u => floorTaken_place u x l
  | addTime p l => exact keepsPlace_seat s fun x u i => addTimeTaken_place u x i _
  | clock p l => exact execClock_keepsPlace s p l
  | share p l => exact execShare_keepsPlace s p l
  | unshare p l => exact execUnshare_keepsPlace s p l
  | setTime p l => exact keepsPlace_request s fun t => setTimeTaken_place t _ _
  | book p l => exact keepsPlace_request s fun t => withTime_place t _ fun now => bookTaken_place t l now
  | roster p l => exact execRoster_keepsPlace s p l
  | unroster p l => exact execUnroster_keepsPlace s p l
  | move p l => exact execMove_keepsPlace s p l
  | cancel p l =>
    exact keepsPlace_request s fun t => withTime_place t _ fun now => withBooking_place t _ _ fun b =>
      cancelTaken_place t now b
  | freeze p l => exact execFreeze_keepsPlace s p l
  | list p l => exact execList_keepsPlace s p l
  | readBook p l => exact execReadBook_keepsPlace s p l
  | clearTable p l => exact keepsPlace_request s fun t => by simp
  | trim p l => exact execTrim_keepsPlace s p l
  | neighbour p l => exact execNeighbour_keepsPlace s p l
  | volume p l => exact execVolume_keepsPlace s p l
  | layout p l => exact execLayout_keepsPlace s p l
  | split p l => exact execSplit_keepsPlace s p l
  | seatMap p l => exact execSeatMap_keepsPlace s p l
  | profile p l => exact execProfile_keepsPlace s p l
  | storeProf p l => exact execStoreProf_keepsPlace s p l
  | storeMap p l => exact keepsPlace_request s fun t => beginWrite_place t _
  | levels p l => exact keepsPlace_request s fun t => by simp
  | screen p l => exact execScreen_keepsPlace s p l
  | reseat p l => exact execReseat_keepsPlace s p l
  | screenSect p l => exact execScreenSect_keepsPlace s p l

/-! ### The frame (R103, R112, R113) -/

/-- The clip counters and their notices leave the place and every seat. -/
theorem countClips_keeps (f : SectFrame) :
    (s.countClips x f).place = s.place ∧ (s.countClips x f).seat i = s.seat i := by
  unfold State.countClips State.countBusClip State.countFeedClip
  dsimp only
  repeat' split
  all_goals simp [State.clipNotice]

@[simp] theorem countClips_place (f : SectFrame) : (s.countClips x f).place = s.place := (countClips_keeps s x 0 f).1

@[simp] theorem seat_countClips (f : SectFrame) : (s.countClips x f).seat i = s.seat i := (countClips_keeps s x i f).2

@[simp] theorem stepRamps_place : s.stepRamps.place = s.place := by
  simp only [State.stepRamps, mapSeats_place]

/-- The place after a frame: the next of the cycle, and 0 after the last. -/
theorem advanceFrame_place : s.advanceFrame.place = if s.place ≥ 959 then 0 else s.place + 1 := by
  unfold State.advanceFrame
  split <;> rfl

theorem seat_withPlace (n : Nat) : ({ s with place := n } : State).seat i = s.seat i := by simp only [State.seat]

theorem ramp_advanceFrame : (s.advanceFrame.seat i).ramp = (s.seat i).ramp := by
  unfold State.advanceFrame
  split
  · rw [seat_withPlace, seat_mapSeats]
    rfl
  · rw [seat_withPlace]

theorem frame_place : s.frame.place = if s.place ≥ 959 then 0 else s.place + 1 := by
  unfold State.frame
  rw [advanceFrame_place]
  split <;> simp [State.pushFeeds, State.driveOutputs]

/-- Within the cycle the places follow one another modulo its 960 frames. -/
theorem frame_place_of_le (h : s.place ≤ 959) : s.frame.place = (s.place + 1) % 960 := by
  rw [frame_place]
  split <;> omega

/-- The cycle of 960 is a whole number of turns of 16, so the count follows without a break (R112). -/
theorem frame_frameCount (h : s.place ≤ 959) : s.frame.frameCount = (s.frameCount + 1) % 16 := by
  unfold State.frameCount
  rw [frame_place_of_le s h]
  omega

/-- A frame of another count than 15 steps no ramp (R113). -/
theorem ramp_frame (h : s.frameCount ≠ 15) : (s.frame.seat i).ramp = (s.seat i).ramp := by
  unfold State.frame
  dsimp only
  rw [if_neg h, ramp_advanceFrame, seat_countClips, seat_countClips]
  unfold State.pushFeeds
  rw [seat_mapSeats]
  rfl

theorem exec_audioFrame (h : s.starting = false) : exec .audioFrame s = .next s.frame := by
  show Host.Outcome.next (if s.starting then s else s.frame) = _
  rw [h]
  rfl

/-- Settles O27: the place counts the frames of the cycle, and no other command but the reset moves it. -/
theorem frameCountAdvances : Obligations.FrameCountAdvances := by
  refine ⟨rfl, ?_, fun _ => rfl, ?_, ?_⟩
  · rintro s _ ⟨⟩
    rfl
  · intro s loaded within
    exact ⟨s.frame, exec_audioFrame s loaded, frame_place_of_le s within, frame_frameCount s within,
      fun count i => ramp_frame s i count⟩
  · intro c s t frame step reset next
    have place := exec_keepsPlace s c frame step reset t next
    exact ⟨place, congrArg (· % 16) place⟩

end Sys2Proof.Machine
end
